-- ==== Sys2Proof/Word.lean ====
section
/-! DEFINITION. The word types of the block. Every value of the block is an unsigned bit vector of at most 16 bits
(R16, R61); the operation word is 8 bits (R81), the stimulus word 32 bits (R84). -/

namespace Sys2Proof

/-- One byte: an operation word (R81) or an operand byte (R83). -/
abbrev Byte := BitVec 8

/-- A channel mask: bit k stands for SLC k or NAC k (R6, R7). The mask is N_SLC or N_NAC bits wide, at most 8; it is
held in 8 bits with the bits above its width 0 (log entry 11). -/
abbrev Mask := BitVec 8

/-- A stimulus word: one clock cycle's inputs (R84). -/
abbrev StimulusWord := BitVec 32

end Sys2Proof
end

