-- ==== Sys2Proof/Config.lean ====
section
/-! DEFINITION. The static configuration of the block (R6 to R15, R49), the legal ranges of its values, and the model's
one free value. -/

namespace Sys2Proof

/-- A classifier predicate of R12: a total function from a raw sample to one bit, written down as the ranges (first and
last value) of raw samples at which it is 1, so that a configuration is plain data (log entry 3). -/
structure Classifier where
  ranges : List (Nat × Nat)
  deriving DecidableEq, Repr

/-- The static configuration (R49). The numbers are kept as `Nat`, so that an out-of-range value can be written down
and is refused (R241 code 1). -/
structure Config where
  /-- `N_SLC`, the number of initiating circuits (R6). -/
  nSlc : Nat
  /-- `N_NAC`, the number of notification circuits (R7). -/
  nNac : Nat
  /-- `ADC_W`, the width of a raw sample (R9). -/
  adcW : Nat
  /-- `SETTLE_CYCLES`, the settling delay in clock cycles (R10). -/
  settleCycles : Nat
  /-- `RESET_DELAY`, the reset countdown in 2-tick periods (R11). -/
  resetDelay : Nat
  /-- `CLS_SLC_ALARM` (R12). -/
  clsSlcAlarm : Classifier
  /-- `CLS_SLC_TROUBLE` (R12). -/
  clsSlcTrouble : Classifier
  /-- `CLS_NAC_TROUBLE` (R12). -/
  clsNacTrouble : Classifier
  /-- `TROUBLE_CLASSIFY_EN` (R12). -/
  troubleClassifyEn : Bool
  /-- `PREALARM_EN` (R13). -/
  prealarmEn : Bool
  /-- `NAC_SILENCEABLE`, bit j for NAC j (R14). -/
  nacSilenceable : Mask
  /-- `NAC_PREALARM`, bit j for NAC j (R14). -/
  nacPrealarm : Mask
  /-- `NAC_DISABLE`, bit j for NAC j (R14). -/
  nacDisable : Mask
  /-- `NAC_PATTERN[j]`, one 2-bit pattern code per NAC (R14, R221). -/
  nacPattern : List (BitVec 2)
  /-- `F_CLK` in Hz (R15). Timing only: no rule reads it. -/
  fClk : Nat
  deriving DecidableEq, Repr

/-- `N_CH = N_SLC + N_NAC`, the number of scan channels (R8). -/
def Config.nCh (c : Config) : Nat := c.nSlc + c.nNac

/-- Ranges in their one canonical form: none starts below `least`, each is not empty and stays below `bound`, and
between two of them there is a value outside both. -/
def rangesLegal (bound : Nat) : Nat → List (Nat × Nat) → Bool
  | _, [] => true
  | least, (lo, hi) :: rest => decide (least ≤ lo ∧ lo ≤ hi ∧ hi < bound) && rangesLegal bound (hi + 2) rest

/-- A classifier is a function of an `ADC_W`-bit value (R12): its ranges hold such values only, in canonical form, so
that equal functions are equal data. -/
abbrev Classifier.Legal (c : Classifier) (adcW : Nat) : Prop := rangesLegal (2 ^ adcW) 0 c.ranges = true

/-- Every value is in its legal range (R6 to R14). `F_CLK` has none stated, and all four pattern codes are legal
(R221). -/
abbrev Config.Legal (c : Config) : Prop :=
  (1 ≤ c.nSlc ∧ c.nSlc ≤ 8) ∧ (1 ≤ c.nNac ∧ c.nNac ≤ 8) ∧ (1 ≤ c.adcW ∧ c.adcW ≤ 16) ∧
  (1 ≤ c.settleCycles ∧ c.settleCycles ≤ 65535) ∧ (1 ≤ c.resetDelay ∧ c.resetDelay ≤ 255) ∧
  (c.clsSlcAlarm.Legal c.adcW ∧ c.clsSlcTrouble.Legal c.adcW ∧ c.clsNacTrouble.Legal c.adcW) ∧
  (c.nacSilenceable.toNat < 2 ^ c.nNac ∧ c.nacPrealarm.toNat < 2 ^ c.nNac ∧ c.nacDisable.toNat < 2 ^ c.nNac) ∧
  c.nacPattern.length = c.nNac

/-- `R_TICK`, the base tick rate in Hz (R15). Timing only: no rule reads it. -/
def rTick : Nat := 16

/-- FREE VALUE (log entry 4). What SETTLE_STEP leaves in SC_SETTLE when it is run with SC_SETTLE = 0: the spec says
that this never happens in the block and states no result for it (R133, R91 (d)). The argument is the draw number,
`State.draws`. -/
opaque Config.freeSettle : Nat → BitVec 16

/-- Configuration EX1 of 95_test_vectors.md, the only complete configuration the spec writes down. Its threshold 0x200
is an example value of the spec's test vectors. The two trouble predicates, which EX1 does not name and
`TROUBLE_CLASSIFY_EN = 0` makes irrelevant, are constantly 0 here; so are the values EX1 leaves out. It is the
configuration that `State.reset` carries (log entry 2, DESIGN CHOICE). -/
def Config.ex1 : Config where
  nSlc := 1
  nNac := 1
  adcW := 10
  settleCycles := 1
  resetDelay := 2
  clsSlcAlarm := ⟨[(0x200, 0x3FF)]⟩
  clsSlcTrouble := ⟨[]⟩
  clsNacTrouble := ⟨[]⟩
  troubleClassifyEn := false
  prealarmEn := true
  nacSilenceable := 0b1#8
  nacPrealarm := 0b1#8
  nacDisable := 0#8
  nacPattern := [0#2]
  fClk := 0

end Sys2Proof
end

