-- ==== Sys2Proof/Syntax.lean ====
section
/-! DEFINITION. The abstract syntax: one constructor per operation word (R82), with its runtime operands (R83); and the
inputs of one clock cycle (R50). -/

namespace Sys2Proof

/-- The named operations of the block (R80, R82). An operand whose width does not depend on the configuration has that
width as its type; a mask and a raw sample are held in whole bytes, and `Instr.WellFormed` bounds them. -/
inductive Instr where
  /-- TICK_COUNT, 0x00 (R101). -/
  | tickCount
  /-- DIV2, 0x04 (R102). -/
  | div2
  /-- RC_EXPIRE, 0x08 (R103). -/
  | rcExpire
  /-- DIV4, 0x0C (R104). -/
  | div4
  /-- DIV8, 0x10 (R105). -/
  | div8
  /-- SCAN_START, 0x40 (R132). -/
  | scanStart
  /-- SETTLE_STEP, 0x44 (R133). -/
  | settleStep
  /-- SAMPLE_DONE, 0x48, raw (ADC_W bits) and gt (1 bit) (R134). -/
  | sampleDone (raw : BitVec 16) (gt : BitVec 1)
  /-- CYCLE_END, 0x4C, gt (1 bit) (R136). -/
  | cycleEnd (gt : BitVec 1)
  /-- BTN_EDGE, 0x50, btn (4 bits) (R139). -/
  | btnEdge (btn : BitVec 4)
  /-- ALARM_EDGE, 0x80, m (N_SLC bits) (R171). -/
  | alarmEdge (m : Mask)
  /-- TROUBLE_EDGE.SLC, 0x84, m (N_SLC bits) (R172). -/
  | troubleEdgeSlc (m : Mask)
  /-- TROUBLE_EDGE.NAC, 0x85, m (N_NAC bits) (R172). -/
  | troubleEdgeNac (m : Mask)
  /-- TROUBLE_EDGE.GEN, 0x86, m (1 bit) (R172). -/
  | troubleEdgeGen (m : BitVec 1)
  /-- TROUBLE_RESTORE.SLC, 0x88, m (N_SLC bits) (R173). -/
  | troubleRestoreSlc (m : Mask)
  /-- TROUBLE_RESTORE.NAC, 0x89, m (N_NAC bits) (R173). -/
  | troubleRestoreNac (m : Mask)
  /-- TROUBLE_RESTORE.GEN, 0x8A, m (1 bit) (R173). -/
  | troubleRestoreGen (m : BitVec 1)
  /-- ACK, 0x8C (R174). -/
  | ack
  /-- SILENCE, 0x90 (R175). -/
  | silence
  /-- RESET_ARM, 0x94 (R176). -/
  | resetArm
  /-- FUNCTION, 0x98 (R177). -/
  | functionBtn
  /-- UI_RECOMPUTE, 0x9C (R178). -/
  | uiRecompute
  /-- NAC_ACTIVATE, 0xA0 (R179). -/
  | nacActivate
  /-- NAC_CODE, 0xC0 (R223). -/
  | nacCode
  /-- OUTPUT_DRIVE, 0xC4 (R224). -/
  | outputDrive
  deriving DecidableEq, Repr

/-- The input signals sampled at one rising clock edge (R50). -/
structure Input where
  /-- `rst`: external and power-on reset, active high. -/
  rst : Bool
  /-- `tick`: the base-tick strobe. -/
  tick : Bool
  /-- `adc_valid`: conversion complete. -/
  adcValid : Bool
  /-- `btn_reset`, 1 = pressed. -/
  btnReset : Bool
  /-- `btn_ack`. -/
  btnAck : Bool
  /-- `btn_silence`. -/
  btnSilence : Bool
  /-- `btn_function`. -/
  btnFunction : Bool
  /-- `gt_in`: the raw general-trouble sense level, 1 = trouble. -/
  gtIn : BitVec 1
  /-- `adc_data`: the raw sample, ADC_W bits, zero-extended. -/
  adcData : BitVec 16
  deriving DecidableEq, Repr

/-- What the platform presents for one clock cycle: the stimulus word (R84) and, when the configuration pins have
another value than in the cycle before, that value (R49, R277; log entry 9). -/
structure Stimulus where
  config : Option Config
  word : StimulusWord
  deriving DecidableEq, Repr

end Sys2Proof
end

