-- ==== Sys2Proof/WellFormed.lean ====
section
/-! DEFINITION. Well-formed terms: the operands and inputs whose width the configuration fixes have no bit above that
width (R83, R85). -/

namespace Sys2Proof

/-- A mask of `n` lanes has no bit at or above `n` (R83). -/
abbrev Mask.Fits (m : Mask) (n : Nat) : Prop := m.toNat < 2 ^ n

/-- The operand widths of R82 and R83. The operands `gt`, `btn` and the one-bit masks have their width as their type. -/
def Instr.wellFormed (c : Config) : Instr → Bool
  | .sampleDone raw _ => decide (raw.toNat < 2 ^ c.adcW)
  | .alarmEdge m => decide (Mask.Fits m c.nSlc)
  | .troubleEdgeSlc m => decide (Mask.Fits m c.nSlc)
  | .troubleEdgeNac m => decide (Mask.Fits m c.nNac)
  | .troubleRestoreSlc m => decide (Mask.Fits m c.nSlc)
  | .troubleRestoreNac m => decide (Mask.Fits m c.nNac)
  | .tickCount => true
  | .div2 => true
  | .rcExpire => true
  | .div4 => true
  | .div8 => true
  | .scanStart => true
  | .settleStep => true
  | .cycleEnd _ => true
  | .btnEdge _ => true
  | .troubleEdgeGen _ => true
  | .troubleRestoreGen _ => true
  | .ack => true
  | .silence => true
  | .resetArm => true
  | .functionBtn => true
  | .uiRecompute => true
  | .nacActivate => true
  | .nacCode => true
  | .outputDrive => true

/-- The raw sample of a cycle's inputs has ADC_W bits (R50, R84). -/
abbrev Input.WellFormed (c : Config) (inp : Input) : Prop := inp.adcData.toNat < 2 ^ c.adcW

end Sys2Proof
end

