-- ==== Sys2Proof/Decode.lean ====
section
/-! DEFINITION. The decoder of operation-level programs (R81 to R83, R85), total on any bytes, which rejects by name;
the encoder, from the same tables; and the stimulus word (R84). -/

namespace Sys2Proof

/-- Why the decoder rejects: a reserved operation word (R85 (a)), an operand bit above its width (R85 (b)), or a
program that ends before the operation's operands do (log entry 7). -/
inductive DecodeError where
  | reservedWord (w : Byte)
  | operandBit
  | missingOperand
  | noBytes
  deriving DecidableEq, Repr

/-- The 25 assigned operation words, without their operands (R82). -/
inductive Opcode where
  | tickCount | div2 | rcExpire | div4 | div8
  | scanStart | settleStep | sampleDone | cycleEnd | btnEdge
  | alarmEdge | troubleEdgeSlc | troubleEdgeNac | troubleEdgeGen
  | troubleRestoreSlc | troubleRestoreNac | troubleRestoreGen
  | ack | silence | resetArm | functionBtn | uiRecompute | nacActivate
  | nacCode | outputDrive
  deriving DecidableEq, Repr

/-- The opcode map of R82: exact match of all 8 bits; every other word is reserved (R85 (a)). -/
def Opcode.ofWord (w : Byte) : Option Opcode :=
  match w with
  | 0x00#8 => some .tickCount
  | 0x04#8 => some .div2
  | 0x08#8 => some .rcExpire
  | 0x0C#8 => some .div4
  | 0x10#8 => some .div8
  | 0x40#8 => some .scanStart
  | 0x44#8 => some .settleStep
  | 0x48#8 => some .sampleDone
  | 0x4C#8 => some .cycleEnd
  | 0x50#8 => some .btnEdge
  | 0x80#8 => some .alarmEdge
  | 0x84#8 => some .troubleEdgeSlc
  | 0x85#8 => some .troubleEdgeNac
  | 0x86#8 => some .troubleEdgeGen
  | 0x88#8 => some .troubleRestoreSlc
  | 0x89#8 => some .troubleRestoreNac
  | 0x8A#8 => some .troubleRestoreGen
  | 0x8C#8 => some .ack
  | 0x90#8 => some .silence
  | 0x94#8 => some .resetArm
  | 0x98#8 => some .functionBtn
  | 0x9C#8 => some .uiRecompute
  | 0xA0#8 => some .nacActivate
  | 0xC0#8 => some .nacCode
  | 0xC4#8 => some .outputDrive
  | _ => none

/-- The mnemonic of an operation word (R82). -/
def Opcode.mnemonic : Opcode → String
  | .tickCount => "TICK_COUNT"
  | .div2 => "DIV2"
  | .rcExpire => "RC_EXPIRE"
  | .div4 => "DIV4"
  | .div8 => "DIV8"
  | .scanStart => "SCAN_START"
  | .settleStep => "SETTLE_STEP"
  | .sampleDone => "SAMPLE_DONE"
  | .cycleEnd => "CYCLE_END"
  | .btnEdge => "BTN_EDGE"
  | .alarmEdge => "ALARM_EDGE"
  | .troubleEdgeSlc => "TROUBLE_EDGE.SLC"
  | .troubleEdgeNac => "TROUBLE_EDGE.NAC"
  | .troubleEdgeGen => "TROUBLE_EDGE.GEN"
  | .troubleRestoreSlc => "TROUBLE_RESTORE.SLC"
  | .troubleRestoreNac => "TROUBLE_RESTORE.NAC"
  | .troubleRestoreGen => "TROUBLE_RESTORE.GEN"
  | .ack => "ACK"
  | .silence => "SILENCE"
  | .resetArm => "RESET_ARM"
  | .functionBtn => "FUNCTION"
  | .uiRecompute => "UI_RECOMPUTE"
  | .nacActivate => "NAC_ACTIVATE"
  | .nacCode => "NAC_CODE"
  | .outputDrive => "OUTPUT_DRIVE"

/-- An operand of `n` bits from its byte, when the bits above `n` are 0 (R83). -/
def narrow (n : Nat) (b : Byte) : Option (BitVec n) :=
  if b.toNat < 2 ^ n then some (b.setWidth n) else none

/-- A one-byte operand of `n` bits, handed to the constructor. -/
def oneByte (n : Nat) (mk : BitVec n → Instr) : List Byte → Except DecodeError (Instr × List Byte)
  | [] => .error .missingOperand
  | b :: rest =>
    match narrow n b with
    | some v => .ok (mk v, rest)
    | none => .error .operandBit

/-- The operands of SAMPLE_DONE: `raw` in two bytes, low byte first, then `gt` in one (R83). -/
def sampleBytes : List Byte → Except DecodeError (Instr × List Byte)
  | lo :: hi :: rest => oneByte 1 (Instr.sampleDone (hi ++ lo)) rest
  | _ => .error .missingOperand

/-- The operand bytes that follow an operation word (R83). -/
def Opcode.operands (o : Opcode) (bs : List Byte) : Except DecodeError (Instr × List Byte) :=
  match o with
  | .tickCount => .ok (.tickCount, bs)
  | .div2 => .ok (.div2, bs)
  | .rcExpire => .ok (.rcExpire, bs)
  | .div4 => .ok (.div4, bs)
  | .div8 => .ok (.div8, bs)
  | .scanStart => .ok (.scanStart, bs)
  | .settleStep => .ok (.settleStep, bs)
  | .sampleDone => sampleBytes bs
  | .cycleEnd => oneByte 1 .cycleEnd bs
  | .btnEdge => oneByte 4 .btnEdge bs
  | .alarmEdge => oneByte 8 .alarmEdge bs
  | .troubleEdgeSlc => oneByte 8 .troubleEdgeSlc bs
  | .troubleEdgeNac => oneByte 8 .troubleEdgeNac bs
  | .troubleEdgeGen => oneByte 1 .troubleEdgeGen bs
  | .troubleRestoreSlc => oneByte 8 .troubleRestoreSlc bs
  | .troubleRestoreNac => oneByte 8 .troubleRestoreNac bs
  | .troubleRestoreGen => oneByte 1 .troubleRestoreGen bs
  | .ack => .ok (.ack, bs)
  | .silence => .ok (.silence, bs)
  | .resetArm => .ok (.resetArm, bs)
  | .functionBtn => .ok (.functionBtn, bs)
  | .uiRecompute => .ok (.uiRecompute, bs)
  | .nacActivate => .ok (.nacActivate, bs)
  | .nacCode => .ok (.nacCode, bs)
  | .outputDrive => .ok (.outputDrive, bs)

/-- One operation from the front of an operation-level program, and the rest of the program. It checks what no
configuration changes: the operation word and the operands of fixed width (R82, R83, R85). -/
def decode : List Byte → Except DecodeError (Instr × List Byte)
  | [] => .error .noBytes
  | w :: rest =>
    match Opcode.ofWord w with
    | some o => o.operands rest
    | none => .error (.reservedWord w)

/-- `decode` with the operand widths that the configuration fixes: the operation decoder of R241 codes 3 and 4. -/
def decodeFor (c : Config) (bs : List Byte) : Except DecodeError (Instr × List Byte) :=
  match decode bs with
  | .error e => .error e
  | .ok (i, rest) => if i.wellFormed c then .ok (i, rest) else .error .operandBit

/-- The operation word `{unit, op, arg}` (R81). -/
def opWord (unit : BitVec 2) (op : BitVec 4) (arg : BitVec 2) : Byte := unit ++ op ++ arg

/-- The operation word of an instruction, from its unit, operation number and family selector (R81, R82). -/
def Instr.word : Instr → Byte
  | .tickCount => opWord 0 0 0
  | .div2 => opWord 0 1 0
  | .rcExpire => opWord 0 2 0
  | .div4 => opWord 0 3 0
  | .div8 => opWord 0 4 0
  | .scanStart => opWord 1 0 0
  | .settleStep => opWord 1 1 0
  | .sampleDone _ _ => opWord 1 2 0
  | .cycleEnd _ => opWord 1 3 0
  | .btnEdge _ => opWord 1 4 0
  | .alarmEdge _ => opWord 2 0 0
  | .troubleEdgeSlc _ => opWord 2 1 0
  | .troubleEdgeNac _ => opWord 2 1 1
  | .troubleEdgeGen _ => opWord 2 1 2
  | .troubleRestoreSlc _ => opWord 2 2 0
  | .troubleRestoreNac _ => opWord 2 2 1
  | .troubleRestoreGen _ => opWord 2 2 2
  | .ack => opWord 2 3 0
  | .silence => opWord 2 4 0
  | .resetArm => opWord 2 5 0
  | .functionBtn => opWord 2 6 0
  | .uiRecompute => opWord 2 7 0
  | .nacActivate => opWord 2 8 0
  | .nacCode => opWord 3 0 0
  | .outputDrive => opWord 3 1 0

/-- The operation an instruction is, without its operands (R82). -/
def Instr.opcode : Instr → Opcode
  | .tickCount => .tickCount
  | .div2 => .div2
  | .rcExpire => .rcExpire
  | .div4 => .div4
  | .div8 => .div8
  | .scanStart => .scanStart
  | .settleStep => .settleStep
  | .sampleDone _ _ => .sampleDone
  | .cycleEnd _ => .cycleEnd
  | .btnEdge _ => .btnEdge
  | .alarmEdge _ => .alarmEdge
  | .troubleEdgeSlc _ => .troubleEdgeSlc
  | .troubleEdgeNac _ => .troubleEdgeNac
  | .troubleEdgeGen _ => .troubleEdgeGen
  | .troubleRestoreSlc _ => .troubleRestoreSlc
  | .troubleRestoreNac _ => .troubleRestoreNac
  | .troubleRestoreGen _ => .troubleRestoreGen
  | .ack => .ack
  | .silence => .silence
  | .resetArm => .resetArm
  | .functionBtn => .functionBtn
  | .uiRecompute => .uiRecompute
  | .nacActivate => .nacActivate
  | .nacCode => .nacCode
  | .outputDrive => .outputDrive

/-- The operand bytes of an instruction, each operand zero-extended to whole bytes, low byte first (R83). -/
def Instr.operandBytes : Instr → List Byte
  | .sampleDone raw gt => [raw.extractLsb' 0 8, raw.extractLsb' 8 8, gt.setWidth 8]
  | .cycleEnd gt => [gt.setWidth 8]
  | .btnEdge btn => [btn.setWidth 8]
  | .alarmEdge m => [m]
  | .troubleEdgeSlc m => [m]
  | .troubleEdgeNac m => [m]
  | .troubleEdgeGen m => [m.setWidth 8]
  | .troubleRestoreSlc m => [m]
  | .troubleRestoreNac m => [m]
  | .troubleRestoreGen m => [m.setWidth 8]
  | .tickCount => []
  | .div2 => []
  | .rcExpire => []
  | .div4 => []
  | .div8 => []
  | .scanStart => []
  | .settleStep => []
  | .ack => []
  | .silence => []
  | .resetArm => []
  | .functionBtn => []
  | .uiRecompute => []
  | .nacActivate => []
  | .nacCode => []
  | .outputDrive => []

/-- The bytes of an instruction in an operation-level program (R83, R88). -/
def encode (i : Instr) : List Byte := i.word :: i.operandBytes

/-- The operands of an operation in source order: their names and their lengths in bytes (R82, R83). -/
def Opcode.operandForms : Opcode → List (String × Nat)
  | .sampleDone => [("raw", 2), ("gt", 1)]
  | .cycleEnd => [("gt", 1)]
  | .btnEdge => [("btn", 1)]
  | .alarmEdge => [("m", 1)]
  | .troubleEdgeSlc => [("m", 1)]
  | .troubleEdgeNac => [("m", 1)]
  | .troubleEdgeGen => [("m", 1)]
  | .troubleRestoreSlc => [("m", 1)]
  | .troubleRestoreNac => [("m", 1)]
  | .troubleRestoreGen => [("m", 1)]
  | .tickCount => []
  | .div2 => []
  | .rcExpire => []
  | .div4 => []
  | .div8 => []
  | .scanStart => []
  | .settleStep => []
  | .ack => []
  | .silence => []
  | .resetArm => []
  | .functionBtn => []
  | .uiRecompute => []
  | .nacActivate => []
  | .nacCode => []
  | .outputDrive => []

/-- How many operand bytes follow an operation word (R83); none after a reserved one. -/
def operandCount (w : Byte) : Nat :=
  match Opcode.ofWord w with
  | some o => o.operandForms.foldl (fun n f => n + f.2) 0
  | none => 0

/-- Byte `k` of a number, low byte first (R61). -/
def byteOf (w k : Nat) : Byte := BitVec.ofNat 8 (w / 2 ^ (8 * k))

/-- The bytes of the instruction whose bits are the low `nbits` bits of `w`, every bit above them 0: the operation word
and as many operand bytes as it takes (log entry 17). -/
def tableBytes (nbits w : Nat) : List Byte :=
  let v := w % 2 ^ nbits
  byteOf v 0 :: (List.range (operandCount (byteOf v 0))).map fun k => byteOf v (k + 1)

/-- The instruction that the decoder reads from a word numbered as spec/opcode_table.json numbers it. -/
def decodeTableWord (nbits w : Nat) : Option Instr :=
  match decode (tableBytes nbits w) with
  | .ok (i, _) => some i
  | .error _ => none

/-! The stimulus word (R84). -/

/-- The inputs of one clock cycle from its stimulus word; none when a bit of 31:24, or a bit of `adc_data` at or above
ADC_W, is 1 (R84, R85 (c)). -/
def decodeStimulus (c : Config) (w : StimulusWord) : Option Input :=
  if w.extractLsb' 24 8 = 0 ∧ (w.extractLsb' 8 16).toNat < 2 ^ c.adcW then
    some
      { rst := w.getLsbD 0
        tick := w.getLsbD 1
        adcValid := w.getLsbD 2
        btnReset := w.getLsbD 3
        btnAck := w.getLsbD 4
        btnSilence := w.getLsbD 5
        btnFunction := w.getLsbD 6
        gtIn := w.extractLsb' 7 1
        adcData := w.extractLsb' 8 16 }
  else none

/-- The stimulus word of one clock cycle's inputs (R84). -/
def encodeStimulus (inp : Input) : StimulusWord :=
  (0#8 ++ inp.adcData ++ inp.gtIn ++ BitVec.ofBool inp.btnFunction ++ BitVec.ofBool inp.btnSilence ++
    BitVec.ofBool inp.btnAck ++ BitVec.ofBool inp.btnReset ++ BitVec.ofBool inp.adcValid ++
    BitVec.ofBool inp.tick ++ BitVec.ofBool inp.rst : BitVec 32)

end Sys2Proof
end

