-- ==== Sys2Proof/Machine/State.lean ====
section
/-! DEFINITION. The state of the machine: every register of 10_state.md R22 to R48, the configuration the block is built
with (R49), what the outside world still has in store for it, and the draw counter of the free values; its reset value;
and the reasons a step can stop. -/

namespace Sys2Proof.Machine

/-- SC_STATE (R30). Code 3 is unused and unreachable and has no constructor, as R30 and V1 allow. -/
inductive ScState where
  /-- Code 0: no channel selected, waiting for SCAN_REQ. -/
  | idle
  /-- Code 1: a channel is selected and the settling delay runs. -/
  | settling
  /-- Code 2: the conversion was started and the block waits for `adc_valid`. -/
  | converting
  deriving DecidableEq, Repr

/-- The registers of the block (R20). A mask register of N_SLC or N_NAC bits is held in 8 bits with the bits above its
width 0 (log entry 11). -/
structure Regs where
  /-- TS_C, the free-running tick counter (R22). -/
  tsC : BitVec 8
  /-- TS_FLASH, the alarm-flasher phase (R23). -/
  tsFlash : Bool
  /-- TS_MT, the March-Time phase (R24). -/
  tsMt : Bool
  /-- TS_BUZZ, the buzzer-pulse phase (R25). -/
  tsBuzz : Bool
  /-- TS_T3, the Temporal-3 phase (R26). -/
  tsT3 : BitVec 3
  /-- TS_RC, the reset countdown (R27). -/
  tsRc : BitVec 8
  /-- SCAN_REQ (R28). -/
  scanReq : Bool
  /-- HALTED (R29). -/
  halted : Bool
  /-- SC_STATE (R30). -/
  scState : ScState
  /-- SC_PTR, the scan index of the channel the next SCAN_START selects (R31). -/
  scPtr : BitVec 4
  /-- SC_CH, the scan index of the selected channel, shown on `adc_chan_sel` (R32). -/
  scCh : BitVec 4
  /-- SC_SETTLE, the remaining settling delay (R33). -/
  scSettle : BitVec 16
  /-- H_SA_PREV (R34). -/
  hSaPrev : Mask
  /-- H_SA_CUR (R34). -/
  hSaCur : Mask
  /-- H_ST_PREV (R35). -/
  hStPrev : Mask
  /-- H_ST_CUR (R35). -/
  hStCur : Mask
  /-- H_NT_PREV (R36). -/
  hNtPrev : Mask
  /-- H_NT_CUR (R36). -/
  hNtCur : Mask
  /-- H_GT_PREV (R37). -/
  hGtPrev : BitVec 1
  /-- H_GT_CUR (R37). -/
  hGtCur : BitVec 1
  /-- BTN_PREV: bit 0 reset, 1 acknowledge, 2 silence, 3 function (R38). -/
  btnPrev : BitVec 4
  /-- CR_PA, the pre-alarm cause register (R39). -/
  crPa : Mask
  /-- CR_GA, the general-alarm cause register (R40). -/
  crGa : Mask
  /-- CR_ST, the SLC trouble cause register (R41). -/
  crSt : Mask
  /-- CR_NT, the NAC trouble cause register (R42). -/
  crNt : Mask
  /-- CR_GT, the general-trouble cause register (R43). -/
  crGt : BitVec 1
  /-- CC, the unacknowledged categories (R44). -/
  cc : BitVec 3
  /-- UI, the UI output state (R45). -/
  ui : BitVec 7
  /-- NAC_SILT, the silence-toggle bits (R46). -/
  nacSilt : Mask
  /-- NAC_ACT, the activation bits (R47). -/
  nacAct : Mask
  /-- O_LED_ALARM (R48). -/
  oLedAlarm : Bool
  /-- O_LED_TROUBLE (R48). -/
  oLedTrouble : Bool
  /-- O_LED_SILENCE (R48). -/
  oLedSilence : Bool
  /-- O_LED_POWER (R48). -/
  oLedPower : Bool
  /-- O_BUZZER (R48). -/
  oBuzzer : Bool
  /-- O_NAC, the per-NAC gate bits (R48). -/
  oNac : Mask
  /-- O_SYS_RESET_REQ (R48). -/
  oSysResetReq : Bool
  /-- O_ADC_START (R48). -/
  oAdcStart : Bool
  deriving DecidableEq, Repr

/-- The reset values of R53: every register 0. -/
def Regs.reset : Regs where
  tsC := 0x00
  tsFlash := false
  tsMt := false
  tsBuzz := false
  tsT3 := 0
  tsRc := 0x00
  scanReq := false
  halted := false
  scState := .idle
  scPtr := 0
  scCh := 0
  scSettle := 0x0000
  hSaPrev := 0
  hSaCur := 0
  hStPrev := 0
  hStCur := 0
  hNtPrev := 0
  hNtCur := 0
  hGtPrev := 0
  hGtCur := 0
  btnPrev := 0
  crPa := 0
  crGa := 0
  crSt := 0
  crNt := 0
  crGt := 0
  cc := 0
  ui := 0
  nacSilt := 0
  nacAct := 0
  oLedAlarm := false
  oLedTrouble := false
  oLedSilence := false
  oLedPower := false
  oBuzzer := false
  oNac := 0
  oSysResetReq := false
  oAdcStart := false

/-- What the outside world still has in store: a run is at operation level, with the bytes of the program still to run
(R83, R88), or at cycle level, with the stimuli of the cycles still to come (R84, R89). Log entry 1. -/
inductive Driver where
  | operations (bytes : List Byte)
  | cycles (stimuli : List Stimulus)
  deriving DecidableEq, Repr

/-- The state of the machine. -/
structure State where
  /-- The configuration in force (R49): the one that was on the configuration pins at the last reset (log entry 9). -/
  cfg : Config
  /-- The registers (R20). -/
  regs : Regs
  /-- The model's own: what drives the run (log entry 1). -/
  driver : Driver
  /-- The model's own: how many free values have been drawn (log entry 4). -/
  draws : Nat
  deriving DecidableEq, Repr

/-- Why the machine stops with a fault: never. "there is no fault code because the hardware has no fault" (R241; log
entry 16). The type has no constructor, so nothing raises one. -/
inductive Fault where
  deriving DecidableEq, Repr

/-- Why the model gives a step no meaning (R241, R242). Each is safe: the run has no meaning from there on, and no claim
about it holds. -/
inductive Refusal where
  /-- An instruction whose meaning is not written yet. Raised by an arm of `exec`; no arm does. Safe. -/
  | notModelled (mnemonic : String)
  /-- REFUSE_CONFIG, code 1: a configuration value outside its legal range. Raised by `step`. Safe. -/
  | refuseConfig
  /-- REFUSE_CONFIG_CHANGE, code 2: the configuration differs from the last cycle's and `rst` is 0. Raised by the cycle
  step (`runUnder`). Safe. -/
  | refuseConfigChange
  /-- REFUSE_OPWORD, code 3: a reserved operation word. Raised by the operation decoder. Safe. -/
  | refuseOpword (w : Byte)
  /-- REFUSE_OPERAND, code 4: an operand with a nonzero bit above its width. Raised by the operation decoder. Safe. -/
  | refuseOperand
  /-- REFUSE_STIMULUS, code 5: a stimulus word with a reserved or out-of-width bit set. Raised by the stimulus decoder.
  Safe. -/
  | refuseStimulus (w : StimulusWord)
  /-- An operation-level program that ends inside an operation's operands; R241 has no code for it (log entry 7). Raised
  by the operation decoder. Safe. -/
  | missingOperand
  /-- Nothing is left to drive the run: "a run ends when HALTED becomes 1 ... or when the stimulus ends" (R254, D41; log
  entry 6). Raised by `step`. Safe. -/
  | runEnded
  deriving DecidableEq, Repr

/-- The outcome code of R241; none for a reason R241 does not list. -/
def Refusal.code : Refusal → Option Nat
  | .notModelled _ => none
  | .refuseConfig => some 1
  | .refuseConfigChange => some 2
  | .refuseOpword _ => some 3
  | .refuseOperand => some 4
  | .refuseStimulus _ => some 5
  | .missingOperand => none
  | .runEnded => none

/-- What one step, or one meaning, answers. -/
abbrev Result := Host.Outcome State Fault Refusal

/-- A block of configuration `c` right after reset (R53, R270), with nothing to drive it yet. -/
def State.resetWith (c : Config) : State where
  cfg := c
  regs := Regs.reset
  driver := .cycles []
  draws := 0

/-- The machine right after reset: every register as R53 says. The configuration, which is not reset (R49), is EX1
(log entry 2, DESIGN CHOICE); the driver is empty (log entry 1). -/
def State.reset : State := State.resetWith Config.ex1

end Sys2Proof.Machine
end

