-- ==== Sys2Proof/Machine/Ops.lean ====
section
/-! DEFINITION. The primitives of 00_scope.md R16 to R18: bits and lanes of masks, the `halt` primitive, and running an
operation on the state. The block has no exception to take and none to return from (R240, R245, R246): `Regs.expire` is
its one system-level action (R95). -/

namespace Sys2Proof.Machine

/-- `REG[i] <- v`: one bit of a register written, the others kept (R17). -/
def writeBit {w : Nat} (v : BitVec w) (i : Nat) (b : Bool) : BitVec w :=
  if b then v ||| BitVec.twoPow w i else v &&& ~~~BitVec.twoPow w i

/-- `REG[i] <- v` of a mask of `n` lanes. A mask has no bit at or above `n`, so such a write writes nothing (log
entry 8). -/
def writeLane (n : Nat) (v : Mask) (i : Nat) (b : Bool) : Mask :=
  if i < n then writeBit v i b else v

/-- The mask of `n` lanes whose lane `j` is `f j`: "for j in 0 .. n-1" (R179, R223). -/
def lanes (f : Nat → Bool) : Nat → Mask
  | 0 => 0
  | n + 1 => writeBit (lanes f n) n (f n)

/-- The rise edges of a history: `CUR & ~PREV` (R136). -/
def rise {w : Nat} (cur prev : BitVec w) : BitVec w := cur &&& ~~~prev

/-- The fall edges of a history: `~CUR & PREV` (R136). -/
def fall {w : Nat} (cur prev : BitVec w) : BitVec w := ~~~cur &&& prev

/-- The 2-bit code of SC_STATE (R30). -/
def ScState.code : ScState → BitVec 2
  | .idle => 0
  | .settling => 1
  | .converting => 2

/-- The effect of RC_EXPIRE (R103): request the external reset and `halt` (R18). What the rest of the cycle's statements
do after a halt is `Regs.cycle`'s business: they are skipped (R67). -/
def Regs.expire (r : Regs) : Regs := { r with oSysResetReq := true, halted := true }

/-- An operation run on the state: `f` on the registers under the configuration in force. While HALTED = 1 no rule runs
and no register changes (R29, R103, R254; log entry 5). -/
def State.operate (s : State) (f : Config → Regs → Regs) : Result :=
  .next (if s.regs.halted then s else { s with regs := f s.cfg s.regs })

/-- The free value of the present draw (log entry 4). -/
def State.freeSettle (s : State) : BitVec 16 := Config.freeSettle s.draws

/-- The state with one more free value drawn (log entry 4). -/
def State.drawn (s : State) : State := { s with draws := s.draws + 1 }

/-- The state with another driver. -/
def State.withDriver (s : State) (d : Driver) : State := { s with driver := d }

/-- The state with other registers. -/
def State.withRegs (s : State) (r : Regs) : State := { s with regs := r }

end Sys2Proof.Machine
end

