-- ==== Sys2Proof/Machine/Operands.lean ====
section
/-! DEFINITION. The operand forms and the pure functions of the rules: the classifier (R12, R135), the channel decode
(R131), the button operand (R139), the pattern selector (R221) and the Temporal-3 pulse function (R222). -/

namespace Sys2Proof.Machine

/-- A classifier predicate applied to a raw sample (R12). -/
def classifies (c : Classifier) (raw : BitVec 16) : Bool :=
  c.ranges.any fun p => decide (p.1 ≤ raw.toNat ∧ raw.toNat ≤ p.2)

/-- The channel of a scan index (R131). -/
inductive Channel where
  | slc (k : Nat)
  | nac (j : Nat)
  deriving DecidableEq, Repr

/-- Scan index k names SLC k when k < N_SLC and the trouble-sense channel of NAC k - N_SLC otherwise (R8, R131). -/
def channelOf (c : Config) (k : Nat) : Channel :=
  if k < c.nSlc then .slc k else .nac (k - c.nSlc)

/-- CLASSIFY(k, raw): the alarm bit and the trouble bit of one raw sample (R135). -/
def classify (c : Config) (k : Nat) (raw : BitVec 16) : Bool × Bool :=
  match channelOf c k with
  | .slc _ => (classifies c.clsSlcAlarm raw, c.troubleClassifyEn && classifies c.clsSlcTrouble raw)
  | .nac _ => (false, c.troubleClassifyEn && classifies c.clsNacTrouble raw)

/-- The button operand: {function, silence, acknowledge, reset} (R139). -/
def Input.btn (inp : Input) : BitVec 4 :=
  BitVec.ofBool inp.btnFunction ++ BitVec.ofBool inp.btnSilence ++ BitVec.ofBool inp.btnAck ++
    BitVec.ofBool inp.btnReset

/-- T3ON(p): the pulses of Temporal-3 are the phases 0, 2 and 4 (R222). -/
def t3On (p : BitVec 3) : Bool :=
  match p with
  | 0#3 => true
  | 2#3 => true
  | 4#3 => true
  | _ => false

/-- CODED(p): the coded bit of a pattern code at the present phases (R221). -/
def coded (r : Regs) (p : BitVec 2) : Bool :=
  match p with
  | 0#2 => true
  | 1#2 => r.tsMt
  | 2#2 => r.tsBuzz
  | _ => t3On r.tsT3

/-- NAC_PATTERN[j] (R14). -/
def patternOf (c : Config) (j : Nat) : BitVec 2 := c.nacPattern.getD j 0

/-- NAC_BASE[j]: whether the alarm logic drives NAC j before silencing (R179). -/
def nacBase (c : Config) (r : Regs) (j : Nat) : Bool :=
  r.crGa != 0 || (r.crPa != 0 && c.nacPrealarm.getLsbD j)

end Sys2Proof.Machine
end

