-- ==== Sys2Proof/Machine/Flags.lean ====
section
/-! DEFINITION. The flags of the block (R51): the unacknowledged categories CC (R44), and the fields of UI (R45). The
block has no arithmetic flags. -/

namespace Sys2Proof.Machine

/-- The condition categories of CurrentConditions, in the order of their priority (R44, R174). -/
inductive Category where
  | preAlarm
  | generalAlarm
  | generalTrouble
  deriving DecidableEq, Repr

/-- The bit of a category in CC (R44). -/
def Category.bit : Category → Nat
  | .preAlarm => 0
  | .generalAlarm => 1
  | .generalTrouble => 2

/-- A category marked unacknowledged (R171, R172). -/
def markUnack (cc : BitVec 3) (k : Category) : BitVec 3 := writeBit cc k.bit true

/-- The highest-priority unacknowledged category (R174). -/
def topUnack (cc : BitVec 3) : Option Category :=
  if cc.getLsbD 0 then some .preAlarm
  else if cc.getLsbD 1 then some .generalAlarm
  else if cc.getLsbD 2 then some .generalTrouble
  else none

/-- One acknowledge press: that category's bit cleared, if there is one (R174). -/
def acknowledge (cc : BitVec 3) : BitVec 3 :=
  match topUnack cc with
  | some k => writeBit cc k.bit false
  | none => cc

/-- SIL_IND toggled: `UI[4] <- ~UI[4]` (R175). -/
def toggleSilence (ui : BitVec 7) : BitVec 7 := writeBit ui 4 (!ui.getLsbD 4)

/-- `pa_u`: pre-alarm latched and unacknowledged (R178). -/
def paUnack (r : Regs) : Bool := r.crPa != 0 && r.cc.getLsbD 0

/-- `ga_u`: general alarm latched and unacknowledged (R178). -/
def gaUnack (r : Regs) : Bool := r.crGa != 0 && r.cc.getLsbD 1

/-- `tr`: any trouble latched (R178). -/
def anyTrouble (r : Regs) : Bool := r.crSt != 0 || r.crNt != 0 || r.crGt != 0

/-- `gt_u`: a trouble latched and unacknowledged (R178). -/
def gtUnack (r : Regs) : Bool := anyTrouble r && r.cc.getLsbD 2

/-- `al`: any alarm latched (R178). -/
def anyAlarm (r : Regs) : Bool := r.crPa != 0 || r.crGa != 0

/-- The UI register that UI_RECOMPUTE leaves: fields 0 to 3, 5 and 6 from the cause and acknowledgement state, UI[4]
(SIL_IND) not written (R178). -/
def uiFields (r : Regs) : BitVec 7 :=
  let alarmUnack := paUnack r || gaUnack r
  let ui := writeBit r.ui 0 alarmUnack
  let ui := writeBit ui 1 (anyAlarm r && !alarmUnack)
  let ui := writeBit ui 2 (gtUnack r)
  let ui := writeBit ui 3 (anyTrouble r && !gtUnack r)
  let ui := writeBit ui 5 (gtUnack r && !alarmUnack)
  writeBit ui 6 (alarmUnack || gtUnack r)

end Sys2Proof.Machine
end

