-- ==== Sys2Proof/Machine/TickScheduler.lean ====
section
/-! DEFINITION. Unit tick_scheduler_divider (40_tick_scheduler_divider.md): the effect of each operation on the
registers, and its meaning as an instruction. -/

namespace Sys2Proof.Machine

/-- TICK_COUNT: `TS_C <- (TS_C + 1) mod 256` (R101). -/
def tickCount (r : Regs) : Regs := { r with tsC := r.tsC + 1 }

/-- The countdown of DIV2: decrement a running countdown, and expire when it reaches 0 (R102). -/
def countDown (r : Regs) : Regs :=
  if r.tsRc = 0 then r
  else if r.tsRc - 1 = 0 then Regs.expire { r with tsRc := r.tsRc - 1 }
  else { r with tsRc := r.tsRc - 1 }

/-- DIV2: toggle the flasher phase and run the reset countdown (R102). -/
def div2 (r : Regs) : Regs := countDown { r with tsFlash := !r.tsFlash }

/-- RC_EXPIRE: invoke the external full-reset capability and halt (R103). -/
def rcExpire (r : Regs) : Regs := r.expire

/-- DIV4: toggle the March-Time phase (R104). -/
def div4 (r : Regs) : Regs := { r with tsMt := !r.tsMt }

/-- DIV8: toggle the buzzer phase, advance the Temporal-3 phase modulo 8 and request a scan step (R105). -/
def div8 (r : Regs) : Regs := { r with tsBuzz := !r.tsBuzz, tsT3 := r.tsT3 + 1, scanReq := true }

/-- TICK_COUNT as an instruction (R101). -/
def execTickCount (s : State) : Result := s.operate fun _ r => tickCount r

/-- DIV2 as an instruction (R102). -/
def execDiv2 (s : State) : Result := s.operate fun _ r => div2 r

/-- RC_EXPIRE as an instruction (R103). -/
def execRcExpire (s : State) : Result := s.operate fun _ r => rcExpire r

/-- DIV4 as an instruction (R104). -/
def execDiv4 (s : State) : Result := s.operate fun _ r => div4 r

/-- DIV8 as an instruction (R105). -/
def execDiv8 (s : State) : Result := s.operate fun _ r => div8 r

end Sys2Proof.Machine
end

