-- ==== Sys2Proof/Machine/Debounce.lean ====
section
/-! DEFINITION. Unit debounce_edge_detector (41_debounce_edge_detector.md): scan sequencing, sample history, edge
detection and button edges. -/

namespace Sys2Proof.Machine

/-- The edge strobes E of a cycle (R71). They are not registers: they are computed in phase B and read in phase C of the
same cycle. -/
structure Strobes where
  saRise : Mask
  saFall : Mask
  stRise : Mask
  stFall : Mask
  ntRise : Mask
  ntFall : Mask
  gtRise : BitVec 1
  gtFall : BitVec 1
  cycleDone : Bool
  deriving DecidableEq, Repr

/-- `E <- all edge strobes 0` (R66). -/
def Strobes.zero : Strobes where
  saRise := 0
  saFall := 0
  stRise := 0
  stFall := 0
  ntRise := 0
  ntFall := 0
  gtRise := 0
  gtFall := 0
  cycleDone := false

/-- SCAN_START: take the scan request and select the next channel (R132). -/
def scanStart (c : Config) (r : Regs) : Regs :=
  { r with
    scanReq := false
    scCh := r.scPtr
    scSettle := BitVec.ofNat 16 c.settleCycles
    scState := .settling }

/-- `SC_SETTLE - 1`; the free value when SC_SETTLE is 0, where the spec states no result (R133, R91 (d); log entry 4). -/
def settleDown (free v : BitVec 16) : BitVec 16 := if v = 0 then free else v - 1

/-- SETTLE_STEP: count the settling delay down, and start the conversion when it ends (R133). -/
def settleStep (free : BitVec 16) (r : Regs) : Regs :=
  let v := settleDown free r.scSettle
  if v = 0 then { r with scSettle := v, oAdcStart := true, scState := .converting }
  else { r with scSettle := v }

/-- The edge strobes of CYCLE_END: each family's rise and fall, the general-trouble line compared as sampled now
(R136). -/
def cycleEndStrobes (gt : BitVec 1) (r : Regs) : Strobes where
  saRise := rise r.hSaCur r.hSaPrev
  saFall := fall r.hSaCur r.hSaPrev
  stRise := rise r.hStCur r.hStPrev
  stFall := fall r.hStCur r.hStPrev
  ntRise := rise r.hNtCur r.hNtPrev
  ntFall := fall r.hNtCur r.hNtPrev
  gtRise := rise gt r.hGtPrev
  gtFall := fall gt r.hGtPrev
  cycleDone := true

/-- CYCLE_END's registers: current shifted into previous, current kept (R136). -/
def cycleEnd (gt : BitVec 1) (r : Regs) : Regs :=
  { r with
    hGtCur := gt
    hSaPrev := r.hSaCur
    hStPrev := r.hStCur
    hNtPrev := r.hNtCur
    hGtPrev := gt }

/-- The classified bits of a sample stored in the channel's current slot (R134). -/
def storeSample (c : Config) (raw : BitVec 16) (r : Regs) : Regs :=
  let bits := classify c r.scCh.toNat raw
  match channelOf c r.scCh.toNat with
  | .slc k => { r with hSaCur := writeLane c.nSlc r.hSaCur k bits.1, hStCur := writeLane c.nSlc r.hStCur k bits.2 }
  | .nac j => { r with hNtCur := writeLane c.nNac r.hNtCur j bits.2 }

/-- The selected channel is the last of the scan cycle: `k == N_CH - 1` (R134). -/
def lastChannel (c : Config) (r : Regs) : Bool := r.scCh.toNat + 1 == c.nCh

/-- SAMPLE_DONE's registers: the sample stored, the scanner idle, and either the scan cycle ended or the pointer
advanced (R134; log entry 8). -/
def sampleDone (c : Config) (raw : BitVec 16) (gt : BitVec 1) (r : Regs) : Regs :=
  let stored := { storeSample c raw r with scState := .idle }
  if lastChannel c r then { cycleEnd gt stored with scPtr := 0 }
  else { stored with scPtr := r.scCh + 1 }

/-- SAMPLE_DONE's edge strobes: CYCLE_END's at the end of a scan cycle, none otherwise (R71, R134). -/
def sampleStrobes (c : Config) (raw : BitVec 16) (gt : BitVec 1) (r : Regs) : Strobes :=
  if lastChannel c r then cycleEndStrobes gt (storeSample c raw r) else .zero

/-- The press edges B of a pass: `btn & ~BTN_PREV` (R139). Not a register. -/
def pressEdges (btn : BitVec 4) (r : Regs) : BitVec 4 := rise btn r.btnPrev

/-- BTN_EDGE's register: `BTN_PREV <- btn` (R139). -/
def btnEdge (btn : BitVec 4) (r : Regs) : Regs := { r with btnPrev := btn }

/-- SCAN_START as an instruction (R132). -/
def execScanStart (s : State) : Result := s.operate scanStart

/-- SETTLE_STEP as an instruction (R133). It draws a free value, which it uses only when SC_SETTLE is 0 (log entry 4);
while HALTED it does nothing, as every operation (log entry 5). -/
def execSettleStep (s : State) : Result :=
  .next (if s.regs.halted then s else s.drawn.withRegs (settleStep s.freeSettle s.regs))

/-- SAMPLE_DONE as an instruction (R134). At operation level the edge strobes go nowhere (R71; log entry 10). -/
def execSampleDone (raw : BitVec 16) (gt : BitVec 1) (s : State) : Result :=
  s.operate fun c r => sampleDone c raw gt r

/-- CYCLE_END as an instruction (R136). At operation level the edge strobes go nowhere (R71; log entry 10). -/
def execCycleEnd (gt : BitVec 1) (s : State) : Result := s.operate fun _ r => cycleEnd gt r

/-- BTN_EDGE as an instruction (R139). At operation level the press mask B goes nowhere (log entry 10). -/
def execBtnEdge (btn : BitVec 4) (s : State) : Result := s.operate fun _ r => btnEdge btn r

end Sys2Proof.Machine
end

