-- ==== Sys2Proof/Machine/ConditionState.lean ====
section
/-! DEFINITION. Unit latching_condition_state_machine (42_latching_condition_state_machine.md). -/

namespace Sys2Proof.Machine

/-- ALARM_EDGE(M): latch new alarms as pre-alarm or general alarm (R171). -/
def alarmEdge (c : Config) (m : Mask) (r : Regs) : Regs :=
  if m = 0 then r
  else if c.prealarmEn ∧ r.crPa = 0 then { r with crPa := r.crPa ||| m, cc := markUnack r.cc .preAlarm }
  else { r with crGa := r.crGa ||| m, cc := markUnack r.cc .generalAlarm }

/-- A trouble cause register with new causes (R172). -/
def latch {w : Nat} (cr m : BitVec w) : BitVec w := cr ||| m

/-- A trouble cause register with causes restored: `CR(fam) & ~M` (R173). -/
def restore {w : Nat} (cr m : BitVec w) : BitVec w := cr &&& ~~~m

/-- CC after a trouble edge of any family: unacknowledged when the edge is not empty (R172). -/
def troubleUnack {w : Nat} (m : BitVec w) (cc : BitVec 3) : BitVec 3 :=
  if m = 0 then cc else markUnack cc .generalTrouble

/-- TROUBLE_EDGE.SLC (R172). An empty M changes nothing: `latch cr 0 = cr`. -/
def troubleEdgeSlc (m : Mask) (r : Regs) : Regs :=
  { r with crSt := latch r.crSt m, cc := troubleUnack m r.cc }

/-- TROUBLE_EDGE.NAC (R172). -/
def troubleEdgeNac (m : Mask) (r : Regs) : Regs :=
  { r with crNt := latch r.crNt m, cc := troubleUnack m r.cc }

/-- TROUBLE_EDGE.GEN (R172). -/
def troubleEdgeGen (m : BitVec 1) (r : Regs) : Regs :=
  { r with crGt := latch r.crGt m, cc := troubleUnack m r.cc }

/-- TROUBLE_RESTORE.SLC (R173). -/
def troubleRestoreSlc (m : Mask) (r : Regs) : Regs := { r with crSt := restore r.crSt m }

/-- TROUBLE_RESTORE.NAC (R173). -/
def troubleRestoreNac (m : Mask) (r : Regs) : Regs := { r with crNt := restore r.crNt m }

/-- TROUBLE_RESTORE.GEN (R173). -/
def troubleRestoreGen (m : BitVec 1) (r : Regs) : Regs := { r with crGt := restore r.crGt m }

/-- ACK: acknowledge the highest-priority unacknowledged category (R174). -/
def acknowledgeTop (r : Regs) : Regs := { r with cc := acknowledge r.cc }

/-- SILENCE: toggle the silenceable circuits in scope and the silence indicator (R175). -/
def silence (c : Config) (r : Regs) : Regs :=
  if r.crPa ≠ 0 ∧ r.crGa = 0 then
    { r with nacSilt := r.nacSilt ^^^ (c.nacSilenceable &&& c.nacPrealarm), ui := toggleSilence r.ui }
  else if r.crGa ≠ 0 then { r with nacSilt := r.nacSilt ^^^ c.nacSilenceable, ui := toggleSilence r.ui }
  else r

/-- RESET_ARM: `TS_RC <- RESET_DELAY` (R176). -/
def resetArm (c : Config) (r : Regs) : Regs := { r with tsRc := BitVec.ofNat 8 c.resetDelay }

/-- FUNCTION: no change (R177). -/
def functionBtn (r : Regs) : Regs := r

/-- UI_RECOMPUTE: the derived UI fields from cause and acknowledgement state (R178). -/
def uiRecompute (r : Regs) : Regs := { r with ui := uiFields r }

/-- NAC_ACTIVATE: `NAC_ACT <- NAC_BASE & ~NAC_SILT` (R179). -/
def nacActivate (c : Config) (r : Regs) : Regs :=
  { r with nacAct := lanes (nacBase c r) c.nNac &&& ~~~r.nacSilt }

/-- ALARM_EDGE as an instruction (R171). -/
def execAlarmEdge (m : Mask) (s : State) : Result := s.operate fun c r => alarmEdge c m r

/-- TROUBLE_EDGE.SLC as an instruction (R172). -/
def execTroubleEdgeSlc (m : Mask) (s : State) : Result := s.operate fun _ r => troubleEdgeSlc m r

/-- TROUBLE_EDGE.NAC as an instruction (R172). -/
def execTroubleEdgeNac (m : Mask) (s : State) : Result := s.operate fun _ r => troubleEdgeNac m r

/-- TROUBLE_EDGE.GEN as an instruction (R172). -/
def execTroubleEdgeGen (m : BitVec 1) (s : State) : Result := s.operate fun _ r => troubleEdgeGen m r

/-- TROUBLE_RESTORE.SLC as an instruction (R173). -/
def execTroubleRestoreSlc (m : Mask) (s : State) : Result := s.operate fun _ r => troubleRestoreSlc m r

/-- TROUBLE_RESTORE.NAC as an instruction (R173). -/
def execTroubleRestoreNac (m : Mask) (s : State) : Result := s.operate fun _ r => troubleRestoreNac m r

/-- TROUBLE_RESTORE.GEN as an instruction (R173). -/
def execTroubleRestoreGen (m : BitVec 1) (s : State) : Result := s.operate fun _ r => troubleRestoreGen m r

/-- ACK as an instruction (R174). -/
def execAck (s : State) : Result := s.operate fun _ r => acknowledgeTop r

/-- SILENCE as an instruction (R175). -/
def execSilence (s : State) : Result := s.operate silence

/-- RESET_ARM as an instruction (R176). -/
def execResetArm (s : State) : Result := s.operate resetArm

/-- FUNCTION as an instruction (R177). -/
def execFunctionBtn (s : State) : Result := s.operate fun _ r => functionBtn r

/-- UI_RECOMPUTE as an instruction (R178). -/
def execUiRecompute (s : State) : Result := s.operate fun _ r => uiRecompute r

/-- NAC_ACTIVATE as an instruction (R179). -/
def execNacActivate (s : State) : Result := s.operate nacActivate

end Sys2Proof.Machine
end

