-- ==== Sys2Proof/Machine/OutputCoder.lean ====
section
/-! DEFINITION. Unit temporal_output_coder (43_temporal_output_coder.md), and the packed output words (R86, R87). -/

namespace Sys2Proof.Machine

/-- The gate bit of NAC j: `NAC_ACT[j] & ~NAC_DISABLE[j] & CODED(NAC_PATTERN[j])` (R223). -/
def gate (c : Config) (r : Regs) (j : Nat) : Bool :=
  r.nacAct.getLsbD j && !c.nacDisable.getLsbD j && coded r (patternOf c j)

/-- NAC_CODE: the gate bit of every notification circuit (R223). -/
def nacCode (c : Config) (r : Regs) : Regs := { r with oNac := lanes (gate c r) c.nNac }

/-- OUTPUT_DRIVE: the LED and buzzer output bits (R224). -/
def outputDrive (r : Regs) : Regs :=
  { r with
    oLedAlarm := r.ui.getLsbD 1 || (r.ui.getLsbD 0 && r.tsFlash)
    oLedTrouble := r.ui.getLsbD 3 || (r.ui.getLsbD 2 && r.tsFlash)
    oLedSilence := r.ui.getLsbD 4
    oLedPower := true
    oBuzzer := r.ui.getLsbD 6 && (!r.ui.getLsbD 5 || r.tsBuzz) }

/-- NAC_CODE as an instruction (R223). -/
def execNacCode (s : State) : Result := s.operate nacCode

/-- OUTPUT_DRIVE as an instruction (R224). -/
def execOutputDrive (s : State) : Result := s.operate fun _ r => outputDrive r

/-- The UI output word UIW: bit 7 always 0 (R86). -/
def uiWord (r : Regs) : BitVec 8 :=
  0#1 ++ BitVec.ofBool r.oAdcStart ++ BitVec.ofBool r.oSysResetReq ++ BitVec.ofBool r.oBuzzer ++
    BitVec.ofBool r.oLedPower ++ BitVec.ofBool r.oLedSilence ++ BitVec.ofBool r.oLedTrouble ++
    BitVec.ofBool r.oLedAlarm

/-- The NAC output word NACW: bit j = O_NAC[j] for j < N_NAC, the rest 0 (R87). -/
def nacWord (c : Config) (r : Regs) : BitVec 8 := lanes (fun j => r.oNac.getLsbD j) c.nNac

/-- The `adc_chan_sel` output port, which shows SC_CH (R32, R48). -/
def adcChanSel (r : Regs) : BitVec 4 := r.scCh

end Sys2Proof.Machine
end

