-- ==== Sys2Proof/Machine/Cycle.lean ====
section
/-! DEFINITION. The clock-cycle step CYCLE and its phases (20_memory.md R66 to R69), the pseudo-operations of R90, and
one step of each kind of run. -/

namespace Sys2Proof.Machine

/-- `if b: op`: the operation when its condition holds (R66, R69). -/
def Regs.onlyIf (r : Regs) (b : Bool) (op : Regs → Regs) : Regs := if b then op r else r

/-- TICK (R90): TICK_COUNT, then DIV2, DIV4 and DIV8 as the new TS_C is a multiple of 2, 4 and 8. When DIV2 expires the
countdown, the rest is skipped (R67). -/
def tickOps (r : Regs) : Regs :=
  let r := tickCount r
  let r := r.onlyIf (r.tsC.toNat % 2 == 0) div2
  if r.halted then r
  else
    let r := r.onlyIf (r.tsC.toNat % 4 == 0) div4
    r.onlyIf (r.tsC.toNat % 8 == 0) div8

/-- Phase A: TICK on a cycle with `tick` = 1, nothing otherwise (R66, R67). -/
def phaseA (tick : Bool) (r : Regs) : Regs := r.onlyIf tick tickOps

/-- A sample completes in this cycle: SC_STATE = CONVERTING and `adc_valid` = 1 (R66). -/
def sampleReady (inp : Input) (r : Regs) : Bool := r.scState == .converting && inp.adcValid

/-- The first half of phase B: SAMPLE_DONE, else SETTLE_STEP while SETTLING (R66, R68). -/
def sampleOrSettle (c : Config) (free : BitVec 16) (inp : Input) (r : Regs) : Regs :=
  if sampleReady inp r then sampleDone c inp.adcData inp.gtIn r
  else r.onlyIf (r.scState == .settling) (settleStep free)

/-- SCAN (R90), phase B: the sample or the settling step, then SCAN_START when the scanner is IDLE with a request
(R66, R68). -/
def phaseB (c : Config) (free : BitVec 16) (inp : Input) (r : Regs) : Regs :=
  let r := sampleOrSettle c free inp r
  r.onlyIf (r.scState == .idle && r.scanReq) (scanStart c)

/-- The edge strobes E that phase B hands to phase C: all 0 unless a scan cycle ends (R66, R71). -/
def phaseBStrobes (c : Config) (inp : Input) (r : Regs) : Strobes :=
  if sampleReady inp r then sampleStrobes c inp.adcData inp.gtIn r else .zero

/-- The condition edges of a pass, in the order of R69. E.SA_FALL is consumed by no rule. -/
def edgeOps (c : Config) (e : Strobes) (r : Regs) : Regs :=
  let r := r.onlyIf (e.saRise != 0) (alarmEdge c e.saRise)
  let r := r.onlyIf (e.stRise != 0) (troubleEdgeSlc e.stRise)
  let r := r.onlyIf (e.ntRise != 0) (troubleEdgeNac e.ntRise)
  let r := r.onlyIf (e.gtRise != 0) (troubleEdgeGen e.gtRise)
  let r := r.onlyIf (e.stFall != 0) (troubleRestoreSlc e.stFall)
  let r := r.onlyIf (e.ntFall != 0) (troubleRestoreNac e.ntFall)
  r.onlyIf (e.gtFall != 0) (troubleRestoreGen e.gtFall)

/-- The button presses B of a pass, in the order acknowledge, silence, reset, function (R69). -/
def buttonOps (c : Config) (b : BitVec 4) (r : Regs) : Regs :=
  let r := r.onlyIf (b.getLsbD 1) acknowledgeTop
  let r := r.onlyIf (b.getLsbD 2) (silence c)
  let r := r.onlyIf (b.getLsbD 0) (resetArm c)
  r.onlyIf (b.getLsbD 3) functionBtn

/-- The recomputation that ends every pass (R69). -/
def recompute (c : Config) (r : Regs) : Regs := outputDrive (nacCode c (nacActivate c (uiRecompute r)))

/-- MAIN_PASS (R69, R90), phase C: button edges, condition edges, buttons, recomputation. -/
def mainPass (c : Config) (inp : Input) (e : Strobes) (r : Regs) : Regs :=
  recompute c (buttonOps c (pressEdges (Input.btn inp) r) (edgeOps c e (btnEdge (Input.btn inp) r)))

/-- `O_ADC_START <- 0`, with which every cycle of a running block begins (R66). -/
def Regs.clearStart (r : Regs) : Regs := { r with oAdcStart := false }

/-- A cycle of a running block: O_ADC_START cleared, phase A, and, unless it halted, phases B and C (R66). -/
def Regs.runningCycle (c : Config) (free : BitVec 16) (inp : Input) (r : Regs) : Regs :=
  let a := phaseA inp.tick r.clearStart
  if a.halted then a else mainPass c inp (phaseBStrobes c inp a) (phaseB c free inp a)

/-- CYCLE(In): reset, else nothing while HALTED, else a running cycle (R66). -/
def Regs.cycle (c : Config) (free : BitVec 16) (inp : Input) (r : Regs) : Regs :=
  if inp.rst then Regs.reset
  else if r.halted then r
  else r.runningCycle c free inp

/-- One clock cycle of the machine. It draws a free value, which it uses only when SETTLE_STEP runs with SC_SETTLE = 0
(log entry 4). -/
def State.cycle (s : State) (inp : Input) : State :=
  { s.drawn with regs := s.regs.cycle s.cfg s.freeSettle inp }

/-- A run of clock cycles under one configuration. -/
def State.runCycles (s : State) (inps : List Input) : State := inps.foldl State.cycle s

/-- The power states of R253. -/
inductive PowerState where
  | inReset
  | running
  | halted
  deriving DecidableEq, Repr

/-- The power state of the block in a cycle with these inputs (R253). -/
def powerState (inp : Input) (r : Regs) : PowerState :=
  if inp.rst then .inReset else if r.halted then .halted else .running

/-- The refusal of a decoder's rejection (R241). -/
def refusalOf : DecodeError → Refusal
  | .reservedWord w => .refuseOpword w
  | .operandBit => .refuseOperand
  | .missingOperand => .missingOperand
  | .noBytes => .runEnded

/-- One clock cycle of a cycle-level run with the configuration `c` on the pins: it must be legal, the stimulus word must
decode, and unless `rst` is 1 the configuration must be the one in force; a reset takes the configuration on the pins (R84,
R85, R241, R270, R277; log entries 9 and 13). -/
def runUnder (c : Config) (w : StimulusWord) (s : State) : Result :=
  if c.Legal then
    match decodeStimulus c w with
    | none => .refused (.refuseStimulus w)
    | some inp =>
      if inp.rst = false ∧ c ≠ s.cfg then .refused .refuseConfigChange
      else .next (State.cycle { s with cfg := c } inp)
  else .refused .refuseConfig

/-- One clock cycle on a stimulus; its configuration is, unless it brings another, the one in force (log entry 9). -/
def runStimulus (x : Stimulus) (s : State) : Result := runUnder (x.config.getD s.cfg) x.word s

/-- The next operation of an operation-level run, and the state it is run in: the bytes it took are gone from the
program (R83, R88). The configuration must be legal (R241 code 1). -/
def fetchOperation (bytes : List Byte) (s : State) : Except Refusal (Instr × State) :=
  if s.cfg.Legal then
    match decodeFor s.cfg bytes with
    | .error e => .error (refusalOf e)
    | .ok (i, rest) => .ok (i, s.withDriver (.operations rest))
  else .error .refuseConfig

end Sys2Proof.Machine
end

