-- ==== Sys2Proof/Machine/Dispatch.lean ====
section
/-! DEFINITION. The meaning of each instruction: one arm per constructor of Instr. -/

namespace Sys2Proof.Machine

def exec (i : Instr) (s : State) : Host.Outcome State Fault Refusal :=
  match i with
  | .tickCount => Sys2Proof.Machine.execTickCount s
  | .div2 => Sys2Proof.Machine.execDiv2 s
  | .rcExpire => Sys2Proof.Machine.execRcExpire s
  | .div4 => Sys2Proof.Machine.execDiv4 s
  | .div8 => Sys2Proof.Machine.execDiv8 s
  | .scanStart => Sys2Proof.Machine.execScanStart s
  | .settleStep => Sys2Proof.Machine.execSettleStep s
  | .sampleDone raw gt => Sys2Proof.Machine.execSampleDone raw gt s
  | .cycleEnd gt => Sys2Proof.Machine.execCycleEnd gt s
  | .btnEdge btn => Sys2Proof.Machine.execBtnEdge btn s
  | .alarmEdge m => Sys2Proof.Machine.execAlarmEdge m s
  | .troubleEdgeSlc m => Sys2Proof.Machine.execTroubleEdgeSlc m s
  | .troubleEdgeNac m => Sys2Proof.Machine.execTroubleEdgeNac m s
  | .troubleEdgeGen m => Sys2Proof.Machine.execTroubleEdgeGen m s
  | .troubleRestoreSlc m => Sys2Proof.Machine.execTroubleRestoreSlc m s
  | .troubleRestoreNac m => Sys2Proof.Machine.execTroubleRestoreNac m s
  | .troubleRestoreGen m => Sys2Proof.Machine.execTroubleRestoreGen m s
  | .ack => Sys2Proof.Machine.execAck s
  | .silence => Sys2Proof.Machine.execSilence s
  | .resetArm => Sys2Proof.Machine.execResetArm s
  | .functionBtn => Sys2Proof.Machine.execFunctionBtn s
  | .uiRecompute => Sys2Proof.Machine.execUiRecompute s
  | .nacActivate => Sys2Proof.Machine.execNacActivate s
  | .nacCode => Sys2Proof.Machine.execNacCode s
  | .outputDrive => Sys2Proof.Machine.execOutputDrive s

end Sys2Proof.Machine
end

