-- ==== Sys2Proof/Machine/Step.lean ====
section
/-! DEFINITION. One step of the machine: the next operation of an operation-level run, or the next clock cycle of a
cycle-level run (log entry 1). -/

namespace Sys2Proof.Machine

/-- One step. An operation-level run fetches its next operation and runs it (R83, R88); a cycle-level run performs one
CYCLE on its next stimulus (R66, R84). With nothing left, the run has ended (R254, D41; log entry 6). -/
def step (s : State) : Host.Outcome State Fault Refusal :=
  match s.driver with
  | .operations bytes =>
    match fetchOperation bytes s with
    | .ok (i, s') => exec i s'
    | .error r => .refused r
  | .cycles [] => .refused .runEnded
  | .cycles (x :: rest) => runStimulus x (s.withDriver (.cycles rest))

/-- The state with one instruction, whose bits are the low `nbits` bits of `w`, where `step` fetches its next
instruction: the run is an operation-level one and its program is that instruction (log entries 1 and 17). -/
def State.withFetchWord (s : State) (nbits w : Nat) : State :=
  s.withDriver (.operations (tableBytes nbits w))

end Sys2Proof.Machine
end

