-- ==== Sys2Proof/Machine/CycleOps.lean ====
section
/-! DEFINITION. The clock cycle as a list of the named operations it calls, and running a list of operations: "The
block's behaviour is composed of named operations ..., called in a fixed order by the clock-cycle step" (R80, R66, R90). -/

namespace Sys2Proof.Machine

/-- Operations run in order, each as its rule says (R88); it stops at the first one that answers no next state. -/
def execAll : List Instr → State → Result
  | [], s => .next s
  | i :: is, s =>
    match exec i s with
    | .next t => execAll is t
    | .fault f => .fault f
    | .refused r => .refused r

/-- `if b: op`, as a list of operations. -/
def callIf (b : Bool) (i : Instr) : List Instr := if b then [i] else []

/-- The operations that phase A calls at TS_C before the tick (R66, R67). The operations after a DIV2 that halts the
block stand in the list; while HALTED = 1 they do nothing (log entry 5), which is what skipping them does. -/
def phaseACalls (tick : Bool) (r : Regs) : List Instr :=
  if tick then
    [.tickCount] ++ callIf ((r.tsC + 1).toNat % 2 == 0) .div2 ++ callIf ((r.tsC + 1).toNat % 4 == 0) .div4 ++
      callIf ((r.tsC + 1).toNat % 8 == 0) .div8
  else []

/-- The operations that phase B calls on the registers phase A leaves (R66, R68). -/
def phaseBCalls (inp : Input) (r : Regs) : List Instr :=
  (if sampleReady inp r then [.sampleDone inp.adcData inp.gtIn] else callIf (r.scState == .settling) .settleStep) ++
    callIf ((sampleReady inp r || r.scState == .idle) && r.scanReq) .scanStart

/-- The operations that phase C calls for the edge strobes and the press edges of the cycle (R69). -/
def mainPassCalls (btn : BitVec 4) (e : Strobes) (b : BitVec 4) : List Instr :=
  [.btnEdge btn] ++ callIf (e.saRise != 0) (.alarmEdge e.saRise) ++
    callIf (e.stRise != 0) (.troubleEdgeSlc e.stRise) ++ callIf (e.ntRise != 0) (.troubleEdgeNac e.ntRise) ++
    callIf (e.gtRise != 0) (.troubleEdgeGen e.gtRise) ++ callIf (e.stFall != 0) (.troubleRestoreSlc e.stFall) ++
    callIf (e.ntFall != 0) (.troubleRestoreNac e.ntFall) ++ callIf (e.gtFall != 0) (.troubleRestoreGen e.gtFall) ++
    callIf (b.getLsbD 1) .ack ++ callIf (b.getLsbD 2) .silence ++ callIf (b.getLsbD 0) .resetArm ++
    callIf (b.getLsbD 3) .functionBtn ++ [.uiRecompute, .nacActivate, .nacCode, .outputDrive]

/-- The operations that a running cycle calls, in order (R66). -/
def cycleCalls (c : Config) (inp : Input) (r : Regs) : List Instr :=
  let a := phaseA inp.tick r.clearStart
  phaseACalls inp.tick r ++ phaseBCalls inp a ++
    mainPassCalls (Input.btn inp) (phaseBStrobes c inp a) (pressEdges (Input.btn inp) r)

end Sys2Proof.Machine
end

