-- ==== Sys2Proof/Safety.lean ====
section
/-! DEFINITION. The terms claims about runs are stated in: the names of the registers and their writers (R55), the
invariants of R54, and counting over the cycles of a run. -/

namespace Sys2Proof.Machine

/-- The registers of R22 to R48 by name. -/
inductive RegName where
  | tsC | tsFlash | tsMt | tsBuzz | tsT3 | tsRc | scanReq | halted
  | scState | scPtr | scCh | scSettle
  | hSaPrev | hSaCur | hStPrev | hStCur | hNtPrev | hNtCur | hGtPrev | hGtCur | btnPrev
  | crPa | crGa | crSt | crNt | crGt | cc | ui | nacSilt | nacAct
  | oLedAlarm | oLedTrouble | oLedSilence | oLedPower | oBuzzer | oNac | oSysResetReq | oAdcStart
  deriving DecidableEq, Repr

/-- Two register files agree on one register. -/
def RegName.Same (n : RegName) (a b : Regs) : Prop :=
  match n with
  | .tsC => a.tsC = b.tsC
  | .tsFlash => a.tsFlash = b.tsFlash
  | .tsMt => a.tsMt = b.tsMt
  | .tsBuzz => a.tsBuzz = b.tsBuzz
  | .tsT3 => a.tsT3 = b.tsT3
  | .tsRc => a.tsRc = b.tsRc
  | .scanReq => a.scanReq = b.scanReq
  | .halted => a.halted = b.halted
  | .scState => a.scState = b.scState
  | .scPtr => a.scPtr = b.scPtr
  | .scCh => a.scCh = b.scCh
  | .scSettle => a.scSettle = b.scSettle
  | .hSaPrev => a.hSaPrev = b.hSaPrev
  | .hSaCur => a.hSaCur = b.hSaCur
  | .hStPrev => a.hStPrev = b.hStPrev
  | .hStCur => a.hStCur = b.hStCur
  | .hNtPrev => a.hNtPrev = b.hNtPrev
  | .hNtCur => a.hNtCur = b.hNtCur
  | .hGtPrev => a.hGtPrev = b.hGtPrev
  | .hGtCur => a.hGtCur = b.hGtCur
  | .btnPrev => a.btnPrev = b.btnPrev
  | .crPa => a.crPa = b.crPa
  | .crGa => a.crGa = b.crGa
  | .crSt => a.crSt = b.crSt
  | .crNt => a.crNt = b.crNt
  | .crGt => a.crGt = b.crGt
  | .cc => a.cc = b.cc
  | .ui => a.ui = b.ui
  | .nacSilt => a.nacSilt = b.nacSilt
  | .nacAct => a.nacAct = b.nacAct
  | .oLedAlarm => a.oLedAlarm = b.oLedAlarm
  | .oLedTrouble => a.oLedTrouble = b.oLedTrouble
  | .oLedSilence => a.oLedSilence = b.oLedSilence
  | .oLedPower => a.oLedPower = b.oLedPower
  | .oBuzzer => a.oBuzzer = b.oBuzzer
  | .oNac => a.oNac = b.oNac
  | .oSysResetReq => a.oSysResetReq = b.oSysResetReq
  | .oAdcStart => a.oAdcStart = b.oAdcStart

/-- The operations that write a register, from the register's own rule (R22 to R48). DIV2 performs RC_EXPIRE (R102) and
SAMPLE_DONE performs CYCLE_END (R134), so each stands beside the operation it performs. -/
def RegName.writers : RegName → List Opcode
  | .tsC => [.tickCount]
  | .tsFlash => [.div2]
  | .tsMt => [.div4]
  | .tsBuzz => [.div8]
  | .tsT3 => [.div8]
  | .tsRc => [.resetArm, .div2]
  | .scanReq => [.div8, .scanStart]
  | .halted => [.rcExpire, .div2]
  | .scState => [.scanStart, .settleStep, .sampleDone]
  | .scPtr => [.sampleDone]
  | .scCh => [.scanStart]
  | .scSettle => [.scanStart, .settleStep]
  | .hSaPrev => [.cycleEnd, .sampleDone]
  | .hSaCur => [.sampleDone]
  | .hStPrev => [.cycleEnd, .sampleDone]
  | .hStCur => [.sampleDone]
  | .hNtPrev => [.cycleEnd, .sampleDone]
  | .hNtCur => [.sampleDone]
  | .hGtPrev => [.cycleEnd, .sampleDone]
  | .hGtCur => [.cycleEnd, .sampleDone]
  | .btnPrev => [.btnEdge]
  | .crPa => [.alarmEdge]
  | .crGa => [.alarmEdge]
  | .crSt => [.troubleEdgeSlc, .troubleRestoreSlc]
  | .crNt => [.troubleEdgeNac, .troubleRestoreNac]
  | .crGt => [.troubleEdgeGen, .troubleRestoreGen]
  | .cc => [.alarmEdge, .troubleEdgeSlc, .troubleEdgeNac, .troubleEdgeGen, .ack]
  | .ui => [.uiRecompute, .silence]
  | .nacSilt => [.silence]
  | .nacAct => [.nacActivate]
  | .oLedAlarm => [.outputDrive]
  | .oLedTrouble => [.outputDrive]
  | .oLedSilence => [.outputDrive]
  | .oLedPower => [.outputDrive]
  | .oBuzzer => [.outputDrive]
  | .oNac => [.nacCode]
  | .oSysResetReq => [.rcExpire, .div2]
  | .oAdcStart => [.settleStep]

/-- Every mask register has no bit at or above its width, N_SLC or N_NAC (R20, R34 to R36, R39 to R42, R46 to R48). -/
structure Regs.InWidth (c : Config) (r : Regs) : Prop where
  hSaPrev : Mask.Fits r.hSaPrev c.nSlc
  hSaCur : Mask.Fits r.hSaCur c.nSlc
  hStPrev : Mask.Fits r.hStPrev c.nSlc
  hStCur : Mask.Fits r.hStCur c.nSlc
  hNtPrev : Mask.Fits r.hNtPrev c.nNac
  hNtCur : Mask.Fits r.hNtCur c.nNac
  crPa : Mask.Fits r.crPa c.nSlc
  crGa : Mask.Fits r.crGa c.nSlc
  crSt : Mask.Fits r.crSt c.nSlc
  crNt : Mask.Fits r.crNt c.nNac
  nacSilt : Mask.Fits r.nacSilt c.nNac
  nacAct : Mask.Fits r.nacAct c.nNac
  oNac : Mask.Fits r.oNac c.nNac

/-- The invariants that every step keeps, at either level of a run: R54 (c) to (h), the widths, R35 and R36 (with trouble
classification off the trouble histories are 0), and R133 (SC_SETTLE is never 0 while SETTLING). -/
structure Inv (s : State) : Prop where
  /-- The configuration in force is legal (R241 code 1). -/
  legal : s.cfg.Legal
  /-- The masks are in width. -/
  inWidth : s.regs.InWidth s.cfg
  /-- R54 (c). -/
  noPrealarm : s.cfg.prealarmEn = false → s.regs.crPa = 0
  /-- R54 (d). -/
  silenced : ∀ j, s.regs.nacSilt.getLsbD j = true → nacBase s.cfg s.regs j = true
  /-- R54 (f), SC_PTR. -/
  scPtr : s.regs.scPtr.toNat < s.cfg.nCh
  /-- R54 (f), SC_CH. -/
  scCh : s.regs.scCh.toNat < s.cfg.nCh
  /-- R54 (g). -/
  resetReq : s.regs.oSysResetReq = s.regs.halted
  /-- R54 (h). -/
  countdown : s.regs.tsRc.toNat ≤ s.cfg.resetDelay
  /-- R133. -/
  settling : s.regs.scState = .settling → s.regs.scSettle ≠ 0
  /-- R35, R36. -/
  noTrouble : s.cfg.troubleClassifyEn = false →
    s.regs.hStPrev = 0 ∧ s.regs.hStCur = 0 ∧ s.regs.hNtPrev = 0 ∧ s.regs.hNtCur = 0

/-- R54 (a), R106: while HALTED = 0 the phases follow TS_C. Every clock cycle keeps it; an operation-level program, which
may run DIV4 without a tick, need not. -/
structure PhaseInv (r : Regs) : Prop where
  flash : r.halted = false → r.tsFlash = r.tsC.getLsbD 1
  mt : r.halted = false → r.tsMt = r.tsC.getLsbD 2
  buzz : r.halted = false → r.tsBuzz = r.tsC.getLsbD 3
  t3 : r.halted = false → r.tsT3 = r.tsC.extractLsb' 3 3

/-- The run is a cycle-level one (R84). -/
def AtCycleLevel (s : State) : Prop := ∃ xs, s.driver = .cycles xs

/-- How many of the cycles have `tick` = 1. -/
def tickTotal (inps : List Input) : Nat := (inps.filter fun i => i.tick).length

/-- No cycle of the run has a reset press edge, the reset button's level before the run given: a level that is on was on in
the cycle before (R139, R176). A button held since its press is no press edge. -/
def NoResetPress : Bool → List Input → Prop
  | _, [] => True
  | before, inp :: inps => (inp.btnReset = true → before = true) ∧ NoResetPress inp.btnReset inps

end Sys2Proof.Machine
end

