-- ==== Sys2Proof/Certificates/Slice0/Obligations.lean ====
section
/-! DEFINITION. The statements for the provers. Each docstring names the rules of spec/ it formalises. -/

open Sys2Proof Sys2Proof.Machine

/-! ## Encoding -/

/-- The words of EN1, EN2, EN5, EN7 and one word of each unit, written out from R81 to R83, decode to their operations. -/
def Obligations.WrittenOutWordsDecode : Prop :=
  decode [0b10000101#8, 0b00000100#8] = .ok (.troubleEdgeNac 0b100#8, []) ∧
  decode [0b10001010#8, 0b00000001#8] = .ok (.troubleRestoreGen 1#1, []) ∧
  decode [0b10000000#8, 0b00000001#8] = .ok (.alarmEdge 0b01#8, []) ∧
  decode [0b01001000#8, 0b00000000#8, 0b00000011#8, 0b00000001#8] = .ok (.sampleDone 0x300#16 1#1, []) ∧
  decode [0b00010000#8, 0b11000000#8] = .ok (.div8, [0xC0#8]) ∧
  decode [0b01010000#8, 0b00001110#8] = .ok (.btnEdge 0b1110#4, []) ∧
  decode [0b11000100#8] = .ok (.outputDrive, [])

/-- R81 to R83: decoding the bytes of any operation, with any operands and whatever follows it, gives that operation back
and leaves what follows. -/
def Obligations.DecodingAnEncodedOperationGivesItBack : Prop :=
  ∀ (i : Instr) (rest : List Byte), decode (encode i ++ rest) = .ok (i, rest)

/-- R81 to R83: the decoder reads no bytes but an operation's own encoding: each operation has one encoding. -/
def Obligations.DecodedBytesAreTheEncoding : Prop :=
  ∀ (bs rest : List Byte) (i : Instr), decode bs = .ok (i, rest) → bs = encode i ++ rest

/-- R82, R85 (a): an operation word is reserved exactly when it is none of the 25 words of R82, and a step on it is
refused with REFUSE_OPWORD (R241 code 3). -/
def Obligations.ReservedOperationWordsAreRefused : Prop :=
  ∀ (s : State) (w : Byte) (rest : List Byte), s.cfg.Legal → s.driver = .operations (w :: rest) →
    (step s = .refused (.refuseOpword w) ↔
      w ∉ ([0x00, 0x04, 0x08, 0x0C, 0x10, 0x40, 0x44, 0x48, 0x4C, 0x50] ++
        [0x80, 0x84, 0x85, 0x86, 0x88, 0x89, 0x8A, 0x8C, 0x90, 0x94, 0x98, 0x9C, 0xA0, 0xC0, 0xC4] : List Byte))

/-- R83, R85 (b): an operand with a nonzero bit above its width is refused with REFUSE_OPERAND (R241 code 4), for every
operand form. -/
def Obligations.OperandBitsAboveTheirWidthAreRefused : Prop :=
  ∀ (s : State) (w lo hi b : Byte) (rest : List Byte), s.cfg.Legal →
    ((s.driver = .operations (w :: b :: rest) ∧
        ((w = 0x80 ∨ w = 0x84 ∨ w = 0x88) ∧ 2 ^ s.cfg.nSlc ≤ b.toNat ∨
          (w = 0x85 ∨ w = 0x89) ∧ 2 ^ s.cfg.nNac ≤ b.toNat ∨
          (w = 0x86 ∨ w = 0x8A ∨ w = 0x4C) ∧ 2 ≤ b.toNat ∨ w = 0x50 ∧ 16 ≤ b.toNat)) ∨
      (s.driver = .operations (0x48 :: lo :: hi :: b :: rest) ∧
        (2 ^ s.cfg.adcW ≤ hi.toNat * 256 + lo.toNat ∨ 2 ≤ b.toNat))) →
    step s = .refused .refuseOperand

/-- R84: packing a cycle's inputs into a stimulus word and unpacking it are inverse to each other, and a word that is
unpacked holds a sample of ADC_W bits. -/
def Obligations.StimulusWordsRoundTrip : Prop :=
  ∀ c : Config,
    (∀ inp : Input, inp.WellFormed c → decodeStimulus c (encodeStimulus inp) = some inp) ∧
    (∀ (w : StimulusWord) (inp : Input), decodeStimulus c w = some inp → encodeStimulus inp = w ∧ inp.WellFormed c)

/-- R84, R85 (c): each input stands at its bit of the stimulus word, and a word does not decode exactly when a bit of 31:24,
or a bit of 23:8 at or above bit 8 + ADC_W, is nonzero; a cycle-level step under a legal configuration is refused with
REFUSE_STIMULUS (R241 code 5) exactly on such a word. That it is refused so even where the configuration also changes is the
model's choice (log entry 13). -/
def Obligations.StimulusBitsStandWhereTheRuleSays : Prop :=
  ∀ (c : Config) (w : StimulusWord), c.Legal →
    (decodeStimulus c w = none ↔ ∃ k, 8 + c.adcW ≤ k ∧ k < 32 ∧ w.getLsbD k = true) ∧
    (∀ inp, decodeStimulus c w = some inp →
      inp.rst = w.getLsbD 0 ∧ inp.tick = w.getLsbD 1 ∧ inp.adcValid = w.getLsbD 2 ∧ inp.btnReset = w.getLsbD 3 ∧
      inp.btnAck = w.getLsbD 4 ∧ inp.btnSilence = w.getLsbD 5 ∧ inp.btnFunction = w.getLsbD 6 ∧
      inp.gtIn.getLsbD 0 = w.getLsbD 7 ∧ ∀ k, k < 16 → inp.adcData.getLsbD k = w.getLsbD (8 + k)) ∧
    ∀ (s : State) (x : Option Config) (rest : List Stimulus), x.getD s.cfg = c → s.driver = .cycles (⟨x, w⟩ :: rest) →
      (step s = .refused (.refuseStimulus w) ↔ ∃ k, 8 + c.adcW ≤ k ∧ k < 32 ∧ w.getLsbD k = true)

/-- R86, R87: the packed output words, bit by bit. -/
def Obligations.OutputWordsShowTheOutputRegisters : Prop :=
  ∀ (c : Config) (r : Regs),
    (uiWord r).getLsbD 0 = r.oLedAlarm ∧ (uiWord r).getLsbD 1 = r.oLedTrouble ∧
    (uiWord r).getLsbD 2 = r.oLedSilence ∧ (uiWord r).getLsbD 3 = r.oLedPower ∧ (uiWord r).getLsbD 4 = r.oBuzzer ∧
    (uiWord r).getLsbD 5 = r.oSysResetReq ∧ (uiWord r).getLsbD 6 = r.oAdcStart ∧ (uiWord r).getLsbD 7 = false ∧
    ∀ j, j < 8 → (nacWord c r).getLsbD j = (decide (j < c.nNac) && r.oNac.getLsbD j)

/-! ## The step, reset and refusals -/

/-- R83, R88: when the bytes of an operation-level program decode to a well-formed operation, the step runs that operation
on the state from whose program its bytes are gone. -/
def Obligations.StepRunsTheDecodedOperation : Prop :=
  ∀ (s : State) (bytes rest : List Byte) (i : Instr), s.cfg.Legal → s.driver = .operations bytes →
    decode bytes = .ok (i, rest) → i.wellFormed s.cfg = true →
    step s = exec i { s with driver := .operations rest }

/-- R66, R84: on a stimulus whose word decodes, and whose configuration is legal and, but for a reset cycle, the one in
force, the step is one CYCLE on the registers and takes the stimulus. The model's choices: the configuration on the pins
is in force from then on (log entry 9), and the cycle draws one free value (log entry 4). -/
def Obligations.StepPerformsOneClockCycle : Prop :=
  ∀ (s : State) (x : Stimulus) (rest : List Stimulus) (inp : Input), (x.config.getD s.cfg).Legal →
    s.driver = .cycles (x :: rest) → decodeStimulus (x.config.getD s.cfg) x.word = some inp →
    (inp.rst = true ∨ x.config.getD s.cfg = s.cfg) →
    step s = .next { cfg := x.config.getD s.cfg
                     regs := s.regs.cycle (x.config.getD s.cfg) (Config.freeSettle s.draws) inp
                     driver := .cycles rest, draws := s.draws + 1 }

/-- R53, R270: a clock edge with `rst` = 1 gives every register its reset value, whatever the state was, HALTED included. -/
def Obligations.ResetGivesEveryRegisterItsResetValue : Prop :=
  ∀ (s : State) (x : Stimulus) (rest : List Stimulus) (inp : Input), (x.config.getD s.cfg).Legal →
    s.driver = .cycles (x :: rest) → decodeStimulus (x.config.getD s.cfg) x.word = some inp → inp.rst = true →
    ∃ t, step s = .next t ∧ t.driver = .cycles rest ∧ t.regs =
      { tsC := 0x00#8, tsFlash := false, tsMt := false, tsBuzz := false, tsT3 := 0#3, tsRc := 0x00#8
        scanReq := false, halted := false, scState := .idle, scPtr := 0#4, scCh := 0#4
        scSettle := 0x0000#16, hSaPrev := 0#8, hSaCur := 0#8, hStPrev := 0#8, hStCur := 0#8
        hNtPrev := 0#8, hNtCur := 0#8, hGtPrev := 0#1, hGtCur := 0#1, btnPrev := 0#4, crPa := 0#8
        crGa := 0#8, crSt := 0#8, crNt := 0#8, crGt := 0#1, cc := 0#3, ui := 0#7, nacSilt := 0#8
        nacAct := 0#8, oLedAlarm := false, oLedTrouble := false, oLedSilence := false
        oLedPower := false, oBuzzer := false, oNac := 0#8, oSysResetReq := false, oAdcStart := false }

/-- R241 code 1: under a configuration outside its legal range every operation-level step, on an empty program too, and
every cycle-level step that has a stimulus is refused with REFUSE_CONFIG. The model's choices: the legality is tested at
every step, where R241 places it at elaboration (log entry 14), and REFUSE_CONFIG is the refusal named whatever other
ground there is, a reserved word, a stimulus that does not decode, a changed configuration, an ended program (log entry
13). -/
def Obligations.IllegalConfigurationIsRefused : Prop :=
  ∀ (s : State) (bytes : List Byte) (x : Stimulus) (rest : List Stimulus),
    (s.driver = .operations bytes ∧ ¬ s.cfg.Legal ∨
      s.driver = .cycles (x :: rest) ∧ ¬ (x.config.getD s.cfg).Legal) →
    step s = .refused .refuseConfig

/-- R241 code 2, R277: a configuration that differs from the one in force, in a cycle with `rst` = 0, is refused with
REFUSE_CONFIG_CHANGE; with `rst` = 1 it is not. -/
def Obligations.ConfigurationChangeWithoutResetIsRefused : Prop :=
  ∀ (s : State) (c : Config) (w : StimulusWord) (rest : List Stimulus) (inp : Input), c.Legal → c ≠ s.cfg →
    s.driver = .cycles (⟨some c, w⟩ :: rest) → decodeStimulus c w = some inp →
    (step s = .refused .refuseConfigChange ↔ inp.rst = false)

/-- R254: while HALTED = 1 and `rst` = 0 a clock cycle changes no register; HALTED is entered in a cycle exactly when its
tick takes TS_RC from 1 to 0, and left exactly when `rst` = 1. That the outputs hold is the spec's choice (D17, log
entry 12). -/
def Obligations.HaltedHoldsUntilReset : Prop :=
  ∀ (c : Config) (free : BitVec 16) (inp : Input) (r : Regs),
    (r.halted = true → inp.rst = false → r.cycle c free inp = r) ∧
    (r.halted = true → ((r.cycle c free inp).halted = false ↔ inp.rst = true)) ∧
    (r.halted = false → ((r.cycle c free inp).halted = true ↔
      inp.rst = false ∧ inp.tick = true ∧ r.tsC.toNat % 2 = 1 ∧ r.tsRc = 1))

/-- The model's choice, log entry 5: an operation word run while HALTED = 1 changes nothing (R29: "While HALTED = 1 no
rule runs"). -/
def Obligations.HaltedBlockRunsNoOperation : Prop :=
  ∀ (i : Instr) (s : State), s.regs.halted = true → exec i s = .next s

/-- R271: in the first cycle after reset with no input the power LED comes on and every other register stays 0. -/
def Obligations.FirstCycleAfterResetLightsThePowerLed : Prop :=
  ∀ (c : Config) (free : BitVec 16) (inp : Input), c.Legal → inp.rst = false → inp.tick = false →
    inp.btnReset = false → inp.btnAck = false → inp.btnSilence = false → inp.btnFunction = false →
    Regs.reset.cycle c free inp = { Regs.reset with oLedPower := true }

/-! ## Unit tick_scheduler_divider -/

/-- R101: TICK_COUNT, word 0x00, adds 1 to TS_C modulo 256, and changes nothing else. In a cycle it runs on every tick;
without a tick phase A does nothing. -/
def Obligations.TickCountAdvancesModulo256 : Prop :=
  encode .tickCount = [0x00#8] ∧
  (∀ s : State, s.regs.halted = false →
    ∃ t, exec .tickCount s = .next t ∧ t.regs.tsC.toNat = (s.regs.tsC.toNat + 1) % 256 ∧
      t = { s with regs := { s.regs with tsC := t.regs.tsC } }) ∧
  ∀ r : Regs, phaseA false r = r ∧ (phaseA true r).tsC.toNat = (r.tsC.toNat + 1) % 256

/-- R102: DIV2, word 0x04, toggles TS_FLASH; a countdown at 0 stays; a countdown above 1 goes down by 1; one at 1 goes to 0
and RC_EXPIRE runs. In a cycle it runs when the new TS_C is even. -/
def Obligations.Div2TogglesTheFlasherAndCountsDown : Prop :=
  encode .div2 = [0x04#8] ∧
  (∀ s : State, s.regs.halted = false →
    (s.regs.tsRc = 0 → exec .div2 s = .next { s with regs := { s.regs with tsFlash := !s.regs.tsFlash } }) ∧
    (s.regs.tsRc = 1 → exec .div2 s = .next { s with regs :=
      { s.regs with tsFlash := !s.regs.tsFlash, tsRc := 0, oSysResetReq := true, halted := true } }) ∧
    (1 < s.regs.tsRc.toNat → ∃ t, exec .div2 s = .next t ∧ t.regs.tsRc.toNat = s.regs.tsRc.toNat - 1 ∧
      t = { s with regs := { s.regs with tsFlash := !s.regs.tsFlash, tsRc := t.regs.tsRc } })) ∧
  ∀ r : Regs, (phaseA true r).tsFlash = if (r.tsC.toNat + 1) % 2 = 0 then !r.tsFlash else r.tsFlash

/-- R103: RC_EXPIRE, word 0x08, raises O_SYS_RESET_REQ and HALTED and changes nothing else; DIV2 performs it exactly when
it takes TS_RC from 1 to 0, and the cycle in which it does is over: phases B and C and DIV4 and DIV8 leave no trace. -/
def Obligations.RcExpireRequestsTheResetAndHalts : Prop :=
  encode .rcExpire = [0x08#8] ∧
  (∀ s : State, s.regs.halted = false →
    exec .rcExpire s = .next { s with regs := { s.regs with oSysResetReq := true, halted := true } } ∧
    ∃ t, exec .div2 s = .next t ∧ (t.regs.halted = true ↔ s.regs.tsRc = 1)) ∧
  ∀ (c : Config) (free : BitVec 16) (inp : Input) (r : Regs), r.halted = false → inp.rst = false →
    inp.tick = true → (r.tsC.toNat + 1) % 2 = 0 → r.tsRc = 1 →
    r.cycle c free inp = { r with tsC := r.tsC + 1, tsFlash := !r.tsFlash, tsRc := 0, oSysResetReq := true,
                                  halted := true, oAdcStart := false }

/-- R104: DIV4, word 0x0C, toggles TS_MT and changes nothing else. In a cycle it runs when the new TS_C is a multiple of 4
and the tick does not halt the block. -/
def Obligations.Div4TogglesTheMarchTimePhase : Prop :=
  encode .div4 = [0x0C#8] ∧
  (∀ s : State, s.regs.halted = false →
    exec .div4 s = .next { s with regs := { s.regs with tsMt := !s.regs.tsMt } }) ∧
  ∀ r : Regs, r.halted = false →
    (phaseA true r).tsMt = if (r.tsC.toNat + 1) % 4 = 0 ∧ r.tsRc ≠ 1 then !r.tsMt else r.tsMt

/-- R105: DIV8, word 0x10, toggles TS_BUZZ, advances TS_T3 modulo 8 and sets SCAN_REQ, and changes nothing else. In a cycle
it runs when the new TS_C is a multiple of 8 and the tick does not halt the block. -/
def Obligations.Div8AdvancesTemporal3AndRequestsAScan : Prop :=
  encode .div8 = [0x10#8] ∧
  (∀ s : State, s.regs.halted = false →
    ∃ t, exec .div8 s = .next t ∧ t.regs.tsT3.toNat = (s.regs.tsT3.toNat + 1) % 8 ∧
      t = { s with regs := { s.regs with tsBuzz := !s.regs.tsBuzz, tsT3 := t.regs.tsT3, scanReq := true } }) ∧
  ∀ r : Regs, r.halted = false →
    (phaseA true r).tsBuzz = (if (r.tsC.toNat + 1) % 8 = 0 ∧ r.tsRc ≠ 1 then !r.tsBuzz else r.tsBuzz) ∧
    (phaseA true r).tsT3 = (if (r.tsC.toNat + 1) % 8 = 0 ∧ r.tsRc ≠ 1 then r.tsT3 + 1 else r.tsT3) ∧
    (phaseA true r).scanReq = (if (r.tsC.toNat + 1) % 8 = 0 ∧ r.tsRc ≠ 1 then true else r.scanReq)

/-- R54 (a), R106: every clock cycle keeps the phases equal to the bits of TS_C they follow, while HALTED = 0. The spec
marks both rules as its own derivation. -/
def Obligations.ClockCyclesKeepThePhaseInvariant : Prop :=
  ∀ s t : State, AtCycleLevel s → PhaseInv s.regs → step s = .next t → PhaseInv t.regs

/-- R107, R176: an armed countdown of D expires at the first tick number 2D - (TS_C mod 2) of the run and not before,
whatever the other inputs do, as long as the reset button has no new press edge: that is 2D-1 or 2D ticks. The button may
stay held after the press that armed the countdown, or be released. The spec marks R107 as its own derivation. -/
def Obligations.CountdownExpiresAfterItsTicks : Prop :=
  ∀ (s : State) (inps : List Input), s.regs.halted = false → s.regs.tsRc ≠ 0 →
    (∀ inp ∈ inps, inp.rst = false) → NoResetPress (s.regs.btnPrev.getLsbD 0) inps →
    ((s.runCycles inps).regs.halted = true ↔
      2 * s.regs.tsRc.toNat - s.regs.tsC.toNat % 2 ≤ tickTotal inps)

/-! ## Unit debounce_edge_detector -/

/-- R132: SCAN_START, word 0x40, takes the request, selects the channel SC_PTR names, loads the settling delay and enters
SETTLING; nothing else changes. In a cycle it runs when the scanner is IDLE, or has just completed a sample, with
SCAN_REQ = 1; otherwise the selected channel and the request stay. -/
def Obligations.ScanStartSelectsTheNextChannel : Prop :=
  encode .scanStart = [0x40#8] ∧
  (∀ s : State, s.regs.halted = false → s.cfg.Legal →
    ∃ t, exec .scanStart s = .next t ∧ t.regs.scSettle.toNat = s.cfg.settleCycles ∧
      t = { s with regs := { s.regs with scanReq := false, scCh := s.regs.scPtr, scSettle := t.regs.scSettle,
                                         scState := .settling } }) ∧
  ∀ (c : Config) (free : BitVec 16) (inp : Input) (r : Regs),
    ((r.scState = .idle ∨ r.scState = .converting ∧ inp.adcValid = true) ∧ r.scanReq = true →
      (phaseB c free inp r).scanReq = false ∧ (phaseB c free inp r).scState = .settling ∧
      (phaseB c free inp r).scCh = (sampleOrSettle c free inp r).scPtr) ∧
    (¬ ((r.scState = .idle ∨ r.scState = .converting ∧ inp.adcValid = true) ∧ r.scanReq = true) →
      (phaseB c free inp r).scanReq = r.scanReq ∧ (phaseB c free inp r).scCh = r.scCh)

/-- R133: SETTLE_STEP, word 0x44, counts SC_SETTLE down, and at 0 starts the conversion; no other register changes. SC_SETTLE is not 0 on entry. In a cycle it runs while SETTLING. -/
def Obligations.SettleStepCountsDownAndStarts : Prop :=
  encode .settleStep = [0x44#8] ∧
  (∀ s : State, s.regs.halted = false → s.regs.scSettle ≠ 0 →
    ∃ t, exec .settleStep s = .next t ∧ t.regs.scSettle.toNat = s.regs.scSettle.toNat - 1 ∧
      t.cfg = s.cfg ∧ t.driver = s.driver ∧
      (s.regs.scSettle = 1 → t.regs = { s.regs with scSettle := 0, oAdcStart := true, scState := .converting }) ∧
      (s.regs.scSettle ≠ 1 → t.regs = { s.regs with scSettle := t.regs.scSettle })) ∧
  ∀ (c : Config) (free : BitVec 16) (inp : Input) (r : Regs), r.scState = .settling →
    phaseB c free inp r = settleStep free r

/-- Log entry 4: SETTLE_STEP run with SC_SETTLE = 0, for which the spec states no result, goes on: it leaves a free value in
SC_SETTLE, whatever that is, tests that value for 0 as R133 says, and changes nothing else. -/
def Obligations.SettleStepAtZeroLeavesAFreeValue : Prop :=
  ∀ s : State, s.regs.halted = false → s.regs.scSettle = 0 →
    ∃ t, exec .settleStep s = .next t ∧ t.regs.scSettle = Config.freeSettle s.draws ∧
      t.cfg = s.cfg ∧ t.driver = s.driver ∧ t.draws = s.draws + 1 ∧
      (t.regs.scSettle = 0 → t.regs = { s.regs with oAdcStart := true, scState := .converting }) ∧
      (t.regs.scSettle ≠ 0 → t.regs = { s.regs with scSettle := t.regs.scSettle })

/-- R133, R140: however the inputs go, a settling delay of n+1 ends with the start strobe exactly n+1 cycles later, if the
block is then still running: until then O_ADC_START is 0 and the channel stays selected. -/
def Obligations.SettlingDelayEndsWithTheStartStrobe : Prop :=
  ∀ (s : State) (inps : List Input), s.regs.scState = .settling → inps ≠ [] →
    (∀ inp ∈ inps, inp.rst = false) → (s.runCycles inps).regs.halted = false →
    (inps.length < s.regs.scSettle.toNat →
      (s.runCycles inps).regs.scState = .settling ∧ (s.runCycles inps).regs.oAdcStart = false ∧
      (s.runCycles inps).regs.scSettle.toNat = s.regs.scSettle.toNat - inps.length ∧
      (s.runCycles inps).regs.scCh = s.regs.scCh) ∧
    (inps.length = s.regs.scSettle.toNat →
      (s.runCycles inps).regs.scState = .converting ∧ (s.runCycles inps).regs.oAdcStart = true ∧
      (s.runCycles inps).regs.scCh = s.regs.scCh)

/-- R134, R135: SAMPLE_DONE, word 0x48, stores the classified bits in the selected channel's current slot, makes the scanner
IDLE, and after the last channel ends the scan cycle (the current slots go into the previous ones, the general-trouble line
is sampled, the pointer returns to 0); before it the pointer advances. Nothing else changes. -/
def Obligations.SampleDoneStoresTheClassifiedBits : Prop :=
  (∀ raw gt, encode (.sampleDone raw gt) = [0x48#8, raw.setWidth 8, (raw >>> 8).setWidth 8, gt.setWidth 8]) ∧
  (∀ (s : State) (raw : BitVec 16) (gt : BitVec 1), s.regs.halted = false → s.cfg.Legal →
    s.regs.scCh.toNat < s.cfg.nCh →
    ∃ t, exec (.sampleDone raw gt) s = .next t ∧ t.regs.scState = .idle ∧
      (∀ j, t.regs.hSaCur.getLsbD j = if j = s.regs.scCh.toNat ∧ j < s.cfg.nSlc
        then classifies s.cfg.clsSlcAlarm raw else s.regs.hSaCur.getLsbD j) ∧
      (∀ j, t.regs.hStCur.getLsbD j = if j = s.regs.scCh.toNat ∧ j < s.cfg.nSlc
        then s.cfg.troubleClassifyEn && classifies s.cfg.clsSlcTrouble raw else s.regs.hStCur.getLsbD j) ∧
      (∀ j, t.regs.hNtCur.getLsbD j = if s.cfg.nSlc + j = s.regs.scCh.toNat
        then s.cfg.troubleClassifyEn && classifies s.cfg.clsNacTrouble raw else s.regs.hNtCur.getLsbD j) ∧
      (s.regs.scCh.toNat + 1 < s.cfg.nCh → t.regs.scPtr.toNat = s.regs.scCh.toNat + 1 ∧
        t = { s with regs := { s.regs with hSaCur := t.regs.hSaCur, hStCur := t.regs.hStCur, hNtCur := t.regs.hNtCur,
                                           scState := .idle, scPtr := t.regs.scPtr } }) ∧
      (s.regs.scCh.toNat + 1 = s.cfg.nCh →
        t = { s with regs := { s.regs with
          hSaCur := t.regs.hSaCur, hStCur := t.regs.hStCur, hNtCur := t.regs.hNtCur, hGtCur := gt
          hSaPrev := t.regs.hSaCur, hStPrev := t.regs.hStCur, hNtPrev := t.regs.hNtCur, hGtPrev := gt
          scState := .idle, scPtr := 0 } })) ∧
  ∀ (c : Config) (free : BitVec 16) (inp : Input) (r : Regs), r.scState = .converting →
    sampleOrSettle c free inp r = if inp.adcValid then sampleDone c inp.adcData inp.gtIn r else r

/-- R136: CYCLE_END, word 0x4C, samples the general-trouble line, shifts every current slot into its previous one, keeps the
current ones and changes nothing else; its strobes are, lane by lane, the rises and falls between the finished cycle's
slots and the previous one's. -/
def Obligations.CycleEndReportsRisesAndFalls : Prop :=
  (∀ gt, encode (.cycleEnd gt) = [0x4C#8, gt.setWidth 8]) ∧
  (∀ (s : State) (gt : BitVec 1), s.regs.halted = false →
    exec (.cycleEnd gt) s = .next { s with regs := { s.regs with
      hGtCur := gt, hSaPrev := s.regs.hSaCur, hStPrev := s.regs.hStCur, hNtPrev := s.regs.hNtCur, hGtPrev := gt } }) ∧
  ∀ (r : Regs) (gt : BitVec 1) (j : Nat),
    (cycleEndStrobes gt r).cycleDone = true ∧
    ((cycleEndStrobes gt r).saRise.getLsbD j = true ↔ r.hSaCur.getLsbD j = true ∧ r.hSaPrev.getLsbD j = false) ∧
    ((cycleEndStrobes gt r).saFall.getLsbD j = true ↔ r.hSaCur.getLsbD j = false ∧ r.hSaPrev.getLsbD j = true) ∧
    ((cycleEndStrobes gt r).stRise.getLsbD j = true ↔ r.hStCur.getLsbD j = true ∧ r.hStPrev.getLsbD j = false) ∧
    ((cycleEndStrobes gt r).stFall.getLsbD j = true ↔ r.hStCur.getLsbD j = false ∧ r.hStPrev.getLsbD j = true) ∧
    ((cycleEndStrobes gt r).ntRise.getLsbD j = true ↔ r.hNtCur.getLsbD j = true ∧ r.hNtPrev.getLsbD j = false) ∧
    ((cycleEndStrobes gt r).ntFall.getLsbD j = true ↔ r.hNtCur.getLsbD j = false ∧ r.hNtPrev.getLsbD j = true) ∧
    ((cycleEndStrobes gt r).gtRise = 1 ↔ gt = 1 ∧ r.hGtPrev = 0) ∧
    ((cycleEndStrobes gt r).gtFall = 1 ↔ gt = 0 ∧ r.hGtPrev = 1)

/-- R71, R134: phase B hands phase C a strobe only in a cycle in which the sample of the last scan channel completes; in
every other cycle all strobes are 0. -/
def Obligations.StrobesComeOnlyAtTheEndOfAScanCycle : Prop :=
  ∀ (c : Config) (inp : Input) (r : Regs),
    ((phaseBStrobes c inp r).cycleDone = true ↔
      r.scState = .converting ∧ inp.adcValid = true ∧ r.scCh.toNat + 1 = c.nCh) ∧
    ((phaseBStrobes c inp r).cycleDone = false → phaseBStrobes c inp r =
      { saRise := 0, saFall := 0, stRise := 0, stFall := 0, ntRise := 0, ntFall := 0, gtRise := 0, gtFall := 0
        cycleDone := false })

/-- R138: in a running cycle the reference of the edge detection, the previous slots, moves only when a scan cycle ends, and
then to the slots of the cycle just finished, against which the next one is compared; a channel's rise strobe is then
exactly "in the finished cycle's slot and not in the one before", its fall strobe the other way round. The spec marks the rule as its own derivation. -/
def Obligations.EachScanCycleIsComparedWithTheOneBefore : Prop :=
  ∀ (c : Config) (free : BitVec 16) (inp : Input) (r : Regs) (k : Nat),
    ((phaseBStrobes c inp r).cycleDone = false →
      (phaseB c free inp r).hSaPrev = r.hSaPrev ∧ (phaseB c free inp r).hStPrev = r.hStPrev ∧
      (phaseB c free inp r).hNtPrev = r.hNtPrev ∧ (phaseB c free inp r).hGtPrev = r.hGtPrev) ∧
    ((phaseBStrobes c inp r).cycleDone = true →
      (phaseB c free inp r).hSaPrev = (phaseB c free inp r).hSaCur ∧
      (phaseB c free inp r).hStPrev = (phaseB c free inp r).hStCur ∧
      (phaseB c free inp r).hNtPrev = (phaseB c free inp r).hNtCur ∧
      (phaseB c free inp r).hGtPrev = inp.gtIn ∧
      (phaseBStrobes c inp r).saRise.getLsbD k = ((phaseB c free inp r).hSaPrev.getLsbD k && !r.hSaPrev.getLsbD k) ∧
      (phaseBStrobes c inp r).saFall.getLsbD k = (!(phaseB c free inp r).hSaPrev.getLsbD k && r.hSaPrev.getLsbD k) ∧
      (phaseBStrobes c inp r).stRise.getLsbD k = ((phaseB c free inp r).hStPrev.getLsbD k && !r.hStPrev.getLsbD k) ∧
      (phaseBStrobes c inp r).stFall.getLsbD k = (!(phaseB c free inp r).hStPrev.getLsbD k && r.hStPrev.getLsbD k) ∧
      (phaseBStrobes c inp r).ntRise.getLsbD k = ((phaseB c free inp r).hNtPrev.getLsbD k && !r.hNtPrev.getLsbD k) ∧
      (phaseBStrobes c inp r).ntFall.getLsbD k = (!(phaseB c free inp r).hNtPrev.getLsbD k && r.hNtPrev.getLsbD k) ∧
      (phaseBStrobes c inp r).gtRise.getLsbD k = (inp.gtIn.getLsbD k && !r.hGtPrev.getLsbD k) ∧
      (phaseBStrobes c inp r).gtFall.getLsbD k = (!inp.gtIn.getLsbD k && r.hGtPrev.getLsbD k))

/-- R137: a conversion result that comes while the scanner is not CONVERTING is ignored: the cycle is the same as without
it, whatever `adc_data` is. -/
def Obligations.UnsolicitedConversionResultsAreIgnored : Prop :=
  ∀ (c : Config) (free : BitVec 16) (inp : Input) (r : Regs) (raw : BitVec 16), r.scState ≠ .converting →
    r.cycle c free { inp with adcValid := true, adcData := raw } = r.cycle c free { inp with adcValid := false }

/-- R255 (a): while `adc_valid` does not come the scanner stays CONVERTING on its channel, the history stands still and a
pending request stays pending; the spec marks the rule as its own derivation. -/
def Obligations.ScannerWaitsForTheConversion : Prop :=
  ∀ (s : State) (inps : List Input), s.regs.scState = .converting →
    (∀ inp ∈ inps, inp.rst = false ∧ inp.adcValid = false) →
    (s.runCycles inps).regs.scState = .converting ∧ (s.runCycles inps).regs.scCh = s.regs.scCh ∧
    (s.runCycles inps).regs.scPtr = s.regs.scPtr ∧
    (s.runCycles inps).regs.hSaPrev = s.regs.hSaPrev ∧ (s.runCycles inps).regs.hSaCur = s.regs.hSaCur ∧
    (s.runCycles inps).regs.hStPrev = s.regs.hStPrev ∧ (s.runCycles inps).regs.hStCur = s.regs.hStCur ∧
    (s.runCycles inps).regs.hNtPrev = s.regs.hNtPrev ∧ (s.runCycles inps).regs.hNtCur = s.regs.hNtCur ∧
    (s.runCycles inps).regs.hGtPrev = s.regs.hGtPrev ∧ (s.runCycles inps).regs.hGtCur = s.regs.hGtCur ∧
    (s.regs.scanReq = true → (s.runCycles inps).regs.scanReq = true)

/-- R139: BTN_EDGE, word 0x50, stores the button levels and changes nothing else; a button's press edge is its level now and
not in the pass before. In a cycle the levels are those of the inputs, bit 0 reset, 1 acknowledge, 2 silence, 3 function. -/
def Obligations.ButtonEdgesAreNewPresses : Prop :=
  (∀ btn, encode (.btnEdge btn) = [0x50#8, btn.setWidth 8]) ∧
  (∀ (s : State) (btn : BitVec 4), s.regs.halted = false →
    exec (.btnEdge btn) s = .next { s with regs := { s.regs with btnPrev := btn } }) ∧
  (∀ (btn : BitVec 4) (r : Regs) (k : Nat),
    (pressEdges btn r).getLsbD k = true ↔ btn.getLsbD k = true ∧ r.btnPrev.getLsbD k = false) ∧
  ∀ (c : Config) (inp : Input) (e : Strobes) (r : Regs),
    (mainPass c inp e r).btnPrev.getLsbD 0 = inp.btnReset ∧ (mainPass c inp e r).btnPrev.getLsbD 1 = inp.btnAck ∧
    (mainPass c inp e r).btnPrev.getLsbD 2 = inp.btnSilence ∧
    (mainPass c inp e r).btnPrev.getLsbD 3 = inp.btnFunction

/-! ## Unit latching_condition_state_machine -/

/-- R171: ALARM_EDGE, word 0x80: an empty mask changes nothing; with pre-alarm enabled and none latched, the mask becomes the
pre-alarm cause and CC[0] is set; otherwise the mask is added to the general-alarm cause and CC[1] is set. Nothing else
changes. In a pass it runs on E.SA_RISE. -/
def Obligations.AlarmEdgeLatchesPreAlarmThenGeneralAlarm : Prop :=
  (∀ m, encode (.alarmEdge m) = [0x80#8, m]) ∧
  (∀ (s : State) (m : Mask), s.regs.halted = false →
    (m = 0 → exec (.alarmEdge m) s = .next s) ∧
    (m ≠ 0 → s.cfg.prealarmEn = true → s.regs.crPa = 0 →
      ∃ t, exec (.alarmEdge m) s = .next t ∧ t.regs.crPa = m ∧
        (∀ k, k < 3 → t.regs.cc.getLsbD k = (k == 0 || s.regs.cc.getLsbD k)) ∧
        t = { s with regs := { s.regs with crPa := t.regs.crPa, cc := t.regs.cc } }) ∧
    (m ≠ 0 → ¬ (s.cfg.prealarmEn = true ∧ s.regs.crPa = 0) →
      ∃ t, exec (.alarmEdge m) s = .next t ∧
        (∀ k, t.regs.crGa.getLsbD k = (s.regs.crGa.getLsbD k || m.getLsbD k)) ∧
        (∀ k, k < 3 → t.regs.cc.getLsbD k = (k == 1 || s.regs.cc.getLsbD k)) ∧
        t = { s with regs := { s.regs with crGa := t.regs.crGa, cc := t.regs.cc } })) ∧
  ∀ (c : Config) (inp : Input) (e : Strobes) (r : Regs),
    (mainPass c inp e r).crPa = (alarmEdge c e.saRise r).crPa ∧
    (mainPass c inp e r).crGa = (alarmEdge c e.saRise r).crGa

/-- R172: TROUBLE_EDGE, words 0x84 (SLC), 0x85 (NAC) and 0x86 (GEN): an empty mask changes nothing; any other is added to its
family's trouble cause and CC[2] is set; nothing else changes. -/
def Obligations.TroubleEdgeLatchesItsFamily : Prop :=
  (∀ m m' : Mask, ∀ g : BitVec 1, encode (.troubleEdgeSlc m) = [0x84#8, m] ∧
    encode (.troubleEdgeNac m') = [0x85#8, m'] ∧ encode (.troubleEdgeGen g) = [0x86#8, g.setWidth 8]) ∧
  ∀ s : State, s.regs.halted = false →
    (exec (.troubleEdgeSlc 0) s = .next s ∧ exec (.troubleEdgeNac 0) s = .next s ∧
      exec (.troubleEdgeGen 0) s = .next s) ∧
    (∀ m : Mask, m ≠ 0 → ∃ t, exec (.troubleEdgeSlc m) s = .next t ∧
      (∀ k, t.regs.crSt.getLsbD k = (s.regs.crSt.getLsbD k || m.getLsbD k)) ∧
      (∀ k, k < 3 → t.regs.cc.getLsbD k = (k == 2 || s.regs.cc.getLsbD k)) ∧
      t = { s with regs := { s.regs with crSt := t.regs.crSt, cc := t.regs.cc } }) ∧
    (∀ m : Mask, m ≠ 0 → ∃ t, exec (.troubleEdgeNac m) s = .next t ∧
      (∀ k, t.regs.crNt.getLsbD k = (s.regs.crNt.getLsbD k || m.getLsbD k)) ∧
      (∀ k, k < 3 → t.regs.cc.getLsbD k = (k == 2 || s.regs.cc.getLsbD k)) ∧
      t = { s with regs := { s.regs with crNt := t.regs.crNt, cc := t.regs.cc } }) ∧
    (∀ m : BitVec 1, m ≠ 0 → ∃ t, exec (.troubleEdgeGen m) s = .next t ∧ t.regs.crGt = 1 ∧
      (∀ k, k < 3 → t.regs.cc.getLsbD k = (k == 2 || s.regs.cc.getLsbD k)) ∧
      t = { s with regs := { s.regs with crGt := t.regs.crGt, cc := t.regs.cc } })

/-- R173: TROUBLE_RESTORE, words 0x88 (SLC), 0x89 (NAC) and 0x8A (GEN), clears exactly the mask's bits of its family's trouble
cause and changes nothing else; CC is not changed. -/
def Obligations.TroubleRestoreClearsExactlyItsBits : Prop :=
  (∀ m m' : Mask, ∀ g : BitVec 1, encode (.troubleRestoreSlc m) = [0x88#8, m] ∧
    encode (.troubleRestoreNac m') = [0x89#8, m'] ∧ encode (.troubleRestoreGen g) = [0x8A#8, g.setWidth 8]) ∧
  ∀ s : State, s.regs.halted = false →
    (∀ m : Mask, ∃ t, exec (.troubleRestoreSlc m) s = .next t ∧
      (∀ k, t.regs.crSt.getLsbD k = (s.regs.crSt.getLsbD k && !m.getLsbD k)) ∧
      t = { s with regs := { s.regs with crSt := t.regs.crSt } }) ∧
    (∀ m : Mask, ∃ t, exec (.troubleRestoreNac m) s = .next t ∧
      (∀ k, t.regs.crNt.getLsbD k = (s.regs.crNt.getLsbD k && !m.getLsbD k)) ∧
      t = { s with regs := { s.regs with crNt := t.regs.crNt } }) ∧
    (∀ m : BitVec 1, ∃ t, exec (.troubleRestoreGen m) s = .next t ∧
      (∀ k, t.regs.crGt.getLsbD k = (s.regs.crGt.getLsbD k && !m.getLsbD k)) ∧
      t = { s with regs := { s.regs with crGt := t.regs.crGt } })

/-- R69, R172, R173: over a pass each trouble cause register gains the cycle's rises and then loses its falls, and no button
changes it. -/
def Obligations.PassLatchesRisesAndClearsFalls : Prop :=
  ∀ (c : Config) (inp : Input) (e : Strobes) (r : Regs) (k : Nat),
    (mainPass c inp e r).crSt.getLsbD k = ((r.crSt.getLsbD k || e.stRise.getLsbD k) && !e.stFall.getLsbD k) ∧
    (mainPass c inp e r).crNt.getLsbD k = ((r.crNt.getLsbD k || e.ntRise.getLsbD k) && !e.ntFall.getLsbD k) ∧
    (mainPass c inp e r).crGt.getLsbD k = ((r.crGt.getLsbD k || e.gtRise.getLsbD k) && !e.gtFall.getLsbD k)

/-- R174: ACK, word 0x8C, clears the first of CC[0], CC[1], CC[2] that is set, and nothing else, whatever the causes are; it
never sets one; with CC = 0 nothing changes. In a pass it runs on the acknowledge press edge, after the condition edges. -/
def Obligations.AcknowledgeClearsTheHighestPriority : Prop :=
  encode .ack = [0x8C#8] ∧
  (∀ s : State, s.regs.halted = false →
    ∃ t, exec .ack s = .next t ∧ t = { s with regs := { s.regs with cc := t.regs.cc } } ∧
      t.regs.cc.getLsbD 0 = false ∧
      t.regs.cc.getLsbD 1 = (s.regs.cc.getLsbD 1 && s.regs.cc.getLsbD 0) ∧
      t.regs.cc.getLsbD 2 = (s.regs.cc.getLsbD 2 && (s.regs.cc.getLsbD 0 || s.regs.cc.getLsbD 1))) ∧
  ∀ (c : Config) (inp : Input) (e : Strobes) (r : Regs), (mainPass c inp e r).cc =
    if (pressEdges (Input.btn inp) r).getLsbD 1 then (acknowledgeTop (edgeOps c e r)).cc else (edgeOps c e r).cc

/-- R175: SILENCE, word 0x90: in pre-alarm only it toggles the NACs that are silenceable and designated for pre-alarm; with a
general alarm latched every silenceable one; in both cases SIL_IND toggles; with no alarm latched nothing changes; nothing
else changes in any case. In a pass it runs on the silence press edge, after the condition edges. -/
def Obligations.SilenceTogglesTheCircuitsInScope : Prop :=
  encode .silence = [0x90#8] ∧
  (∀ s : State, s.regs.halted = false →
    (s.regs.crPa = 0 → s.regs.crGa = 0 → exec .silence s = .next s) ∧
    (s.regs.crPa ≠ 0 ∨ s.regs.crGa ≠ 0 →
      ∃ t, exec .silence s = .next t ∧
        (∀ j, t.regs.nacSilt.getLsbD j = (s.regs.nacSilt.getLsbD j ^^
          (s.cfg.nacSilenceable.getLsbD j && (s.regs.crGa != 0 || s.cfg.nacPrealarm.getLsbD j)))) ∧
        (∀ k, k < 7 → t.regs.ui.getLsbD k = (s.regs.ui.getLsbD k ^^ (k == 4))) ∧
        t = { s with regs := { s.regs with nacSilt := t.regs.nacSilt, ui := t.regs.ui } })) ∧
  ∀ (c : Config) (inp : Input) (e : Strobes) (r : Regs),
    (mainPass c inp e r).nacSilt =
      (if (pressEdges (Input.btn inp) r).getLsbD 2 then (silence c (edgeOps c e r)).nacSilt else r.nacSilt) ∧
    (mainPass c inp e r).ui.getLsbD 4 =
      (if (pressEdges (Input.btn inp) r).getLsbD 2 then (silence c (edgeOps c e r)).ui.getLsbD 4 else r.ui.getLsbD 4)

/-- R176: RESET_ARM, word 0x94, loads RESET_DELAY into TS_RC, whatever was in it, and changes nothing else; a press edge of
the reset button loads it in the pass, over that cycle's decrement, unless the cycle expires the countdown. -/
def Obligations.ResetPressLoadsTheCountdown : Prop :=
  encode .resetArm = [0x94#8] ∧
  (∀ s : State, s.regs.halted = false → s.cfg.Legal →
    ∃ t, exec .resetArm s = .next t ∧ t.regs.tsRc.toNat = s.cfg.resetDelay ∧
      t = { s with regs := { s.regs with tsRc := t.regs.tsRc } }) ∧
  ∀ (c : Config) (free : BitVec 16) (inp : Input) (r : Regs), c.Legal → r.halted = false → inp.rst = false →
    inp.btnReset = true → r.btnPrev.getLsbD 0 = false →
    ((r.cycle c free inp).halted = false → (r.cycle c free inp).tsRc.toNat = c.resetDelay) ∧
    ((r.cycle c free inp).halted = true →
      (r.cycle c free inp).tsRc = 0 ∧ (r.cycle c free inp).btnPrev = r.btnPrev)

/-- R177: FUNCTION, word 0x98, changes nothing; the function button's press edge has no effect on a pass. -/
def Obligations.FunctionButtonHasNoEffect : Prop :=
  encode .functionBtn = [0x98#8] ∧ (∀ s : State, exec .functionBtn s = .next s) ∧
  ∀ (c : Config) (b : BitVec 4) (r : Regs), buttonOps c b r = buttonOps c (b &&& 0b0111#4) r

/-- R178: UI_RECOMPUTE, word 0x9C, writes the six derived UI fields from the cause and acknowledgement state, leaves SIL_IND
and changes nothing else. -/
def Obligations.UiRecomputeDrivesTheDerivedFields : Prop :=
  encode .uiRecompute = [0x9C#8] ∧
  ∀ s : State, s.regs.halted = false →
    ∃ t, exec .uiRecompute s = .next t ∧ t = { s with regs := { s.regs with ui := t.regs.ui } } ∧
      (t.regs.ui.getLsbD 0 = true ↔
        s.regs.crPa ≠ 0 ∧ s.regs.cc.getLsbD 0 = true ∨ s.regs.crGa ≠ 0 ∧ s.regs.cc.getLsbD 1 = true) ∧
      (t.regs.ui.getLsbD 1 = true ↔ (s.regs.crPa ≠ 0 ∨ s.regs.crGa ≠ 0) ∧ t.regs.ui.getLsbD 0 = false) ∧
      (t.regs.ui.getLsbD 2 = true ↔
        (s.regs.crSt ≠ 0 ∨ s.regs.crNt ≠ 0 ∨ s.regs.crGt ≠ 0) ∧ s.regs.cc.getLsbD 2 = true) ∧
      (t.regs.ui.getLsbD 3 = true ↔
        (s.regs.crSt ≠ 0 ∨ s.regs.crNt ≠ 0 ∨ s.regs.crGt ≠ 0) ∧ t.regs.ui.getLsbD 2 = false) ∧
      t.regs.ui.getLsbD 4 = s.regs.ui.getLsbD 4 ∧
      t.regs.ui.getLsbD 5 = (t.regs.ui.getLsbD 2 && !t.regs.ui.getLsbD 0) ∧
      t.regs.ui.getLsbD 6 = (t.regs.ui.getLsbD 0 || t.regs.ui.getLsbD 2)

/-- R179: NAC_ACTIVATE, word 0xA0: NAC j is activated exactly when a general alarm is latched, or a pre-alarm is and NAC j is
used during pre-alarm, and its silence toggle is off; nothing else changes. -/
def Obligations.NacActivateFollowsTheAlarms : Prop :=
  encode .nacActivate = [0xA0#8] ∧
  ∀ s : State, s.regs.halted = false →
    ∃ t, exec .nacActivate s = .next t ∧ t = { s with regs := { s.regs with nacAct := t.regs.nacAct } } ∧
      ∀ j, j < 8 → (t.regs.nacAct.getLsbD j = true ↔ j < s.cfg.nNac ∧
        (s.regs.crGa ≠ 0 ∨ s.regs.crPa ≠ 0 ∧ s.cfg.nacPrealarm.getLsbD j = true) ∧
        s.regs.nacSilt.getLsbD j = false)

/-- R181: recomputing the outputs a second time changes nothing. The spec marks the rule as its own derivation. -/
def Obligations.RecomputationIsIdempotent : Prop :=
  ∀ (c : Config) (r : Regs),
    uiRecompute (uiRecompute r) = uiRecompute r ∧ nacActivate c (nacActivate c r) = nacActivate c r ∧
    recompute c (recompute c r) = recompute c r

/-- R39, R40, R54 (b), R180 (a): no step clears a bit of CR_PA or CR_GA, at either level, except a clock cycle with
`rst` = 1. The spec marks R54 and R180 as its own derivation. -/
def Obligations.AlarmCausesAreClearedOnlyByReset : Prop :=
  ∀ (s t : State), step s = .next t →
    (∀ x rest inp, s.driver = .cycles (x :: rest) → decodeStimulus (x.config.getD s.cfg) x.word = some inp →
      inp.rst = false) →
    ∀ k, (s.regs.crPa.getLsbD k = true → t.regs.crPa.getLsbD k = true) ∧
      (s.regs.crGa.getLsbD k = true → t.regs.crGa.getLsbD k = true)

/-! ## Unit temporal_output_coder -/

/-- R221, R222, R223: NAC_CODE, word 0xC0, writes every gate bit and nothing else: NAC j's gate is 1 exactly when it is
activated, not disabled, and its pattern's coded bit is 1, pattern 0 steady, 1 the March-Time phase, 2 the buzzer phase,
3 the pulses 0, 2 and 4 of the Temporal-3 phase, which is `~p[0] & ~(p[2] & p[1])` of the phase. In a pass it runs after
NAC_ACTIVATE. -/
def Obligations.NacCodeGatesEachCircuit : Prop :=
  encode .nacCode = [0xC0#8] ∧
  (∀ s : State, s.regs.halted = false → s.cfg.Legal →
    ∃ t, exec .nacCode s = .next t ∧ t = { s with regs := { s.regs with oNac := t.regs.oNac } } ∧
      (∀ j, s.cfg.nNac ≤ j → t.regs.oNac.getLsbD j = false) ∧
      ∀ j p, s.cfg.nacPattern[j]? = some p →
        (t.regs.oNac.getLsbD j = true ↔ s.regs.nacAct.getLsbD j = true ∧ s.cfg.nacDisable.getLsbD j = false ∧
          (p = 0 ∨ p = 1 ∧ s.regs.tsMt = true ∨ p = 2 ∧ s.regs.tsBuzz = true ∨
            p = 3 ∧ (s.regs.tsT3 = 0 ∨ s.regs.tsT3 = 2 ∨ s.regs.tsT3 = 4)))) ∧
  (∀ p : BitVec 3, t3On p = (!p.getLsbD 0 && !(p.getLsbD 2 && p.getLsbD 1))) ∧
  ∀ (c : Config) (inp : Input) (e : Strobes) (r : Regs),
    (mainPass c inp e r).oNac = (nacCode c { r with nacAct := (mainPass c inp e r).nacAct }).oNac

/-- R224: OUTPUT_DRIVE, word 0xC4, writes the four LED bits and the buzzer bit from UI, TS_FLASH and TS_BUZZ, and nothing
else. It is the last operation of a pass. -/
def Obligations.OutputDriveShowsTheUiState : Prop :=
  encode .outputDrive = [0xC4#8] ∧
  (∀ s : State, s.regs.halted = false →
    ∃ t, exec .outputDrive s = .next t ∧
      (t.regs.oLedAlarm = true ↔
        s.regs.ui.getLsbD 1 = true ∨ s.regs.ui.getLsbD 0 = true ∧ s.regs.tsFlash = true) ∧
      (t.regs.oLedTrouble = true ↔
        s.regs.ui.getLsbD 3 = true ∨ s.regs.ui.getLsbD 2 = true ∧ s.regs.tsFlash = true) ∧
      t.regs.oLedSilence = s.regs.ui.getLsbD 4 ∧ t.regs.oLedPower = true ∧
      (t.regs.oBuzzer = true ↔
        s.regs.ui.getLsbD 6 = true ∧ (s.regs.ui.getLsbD 5 = false ∨ s.regs.tsBuzz = true)) ∧
      t = { s with regs := { s.regs with
        oLedAlarm := t.regs.oLedAlarm, oLedTrouble := t.regs.oLedTrouble, oLedSilence := t.regs.oLedSilence
        oLedPower := t.regs.oLedPower, oBuzzer := t.regs.oBuzzer } }) ∧
  ∀ (c : Config) (inp : Input) (e : Strobes) (r : Regs),
    outputDrive (mainPass c inp e r) = mainPass c inp e r

/-! ## The whole machine -/

/-- R55: a register has the writers its rule names and no others: an operation that is not among them leaves it as it was,
in every state. No operation touches the configuration or what drives the run. -/
def Obligations.RegistersHaveOnlyTheirWriters : Prop :=
  ∀ (i : Instr) (s t : State), exec i s = .next t →
    t.cfg = s.cfg ∧ t.driver = s.driver ∧
    ∀ n : RegName, i.opcode ∉ n.writers → n.Same s.regs t.regs

/-- R72, R55: in a clock cycle phase A writes no register of the scanner or the state machine, phase B none of the tick
scheduler's (but it clears SCAN_REQ) and none of the state machine's, phase C none of the scanner's and none of the tick
scheduler's but TS_RC. -/
def Obligations.PhasesWriteOnlyTheirOwnRegisters : Prop :=
  ∀ (c : Config) (free : BitVec 16) (inp : Input) (e : Strobes) (r : Regs),
    (∀ n : RegName, n ∉ ([.tsC, .tsFlash, .tsMt, .tsBuzz, .tsT3, .tsRc, .scanReq, .halted, .oSysResetReq] : List RegName) →
      n.Same r (phaseA inp.tick r)) ∧
    (∀ n : RegName, n ∉ ([.scanReq, .scState, .scPtr, .scCh, .scSettle, .hSaPrev, .hSaCur, .hStPrev, .hStCur] ++
        [.hNtPrev, .hNtCur, .hGtPrev, .hGtCur, .oAdcStart] : List RegName) →
      n.Same r (phaseB c free inp r)) ∧
    (∀ n : RegName, n ∉ ([.btnPrev, .crPa, .crGa, .crSt, .crNt, .crGt, .cc, .ui, .nacSilt, .nacAct, .tsRc] ++
        [.oLedAlarm, .oLedTrouble, .oLedSilence, .oLedPower, .oBuzzer, .oNac] : List RegName) →
      n.Same r (mainPass c inp e r))

/-- R66 to R69: with `rst` = 1 a clock cycle only resets; while HALTED = 1 it changes no register; otherwise it is the named
operations it calls, run one after the other in the order of the rules from the state with O_ADC_START cleared. A halt in
phase A is included: the calls that R67 then skips stand in the list, and that they change nothing there is the model's
reading that an operation run while HALTED = 1 does nothing (log entry 5, DEDUCED). -/
def Obligations.ClockCycleIsItsOperationsInOrder : Prop :=
  ∀ (s : State) (inp : Input),
    (inp.rst = true → (s.cycle inp).regs = Regs.reset) ∧
    (inp.rst = false → s.regs.halted = true → (s.cycle inp).regs = s.regs) ∧
    (inp.rst = false → s.regs.halted = false →
      ∃ t, execAll (cycleCalls s.cfg inp s.regs) { s with regs := { s.regs with oAdcStart := false } } = .next t ∧
        t.regs = (s.cycle inp).regs ∧ t.cfg = s.cfg ∧ t.driver = s.driver)

/-- R91 (a): while the block runs, TS_C counts the cycles with `tick` = 1 modulo 256: a tick held for k cycles counts k
times (R273). -/
def Obligations.TickCounterCountsTickCycles : Prop :=
  ∀ (s : State) (inps : List Input), (∀ inp ∈ inps, inp.rst = false) → (s.runCycles inps).regs.halted = false →
    (s.runCycles inps).regs.tsC.toNat = (s.regs.tsC.toNat + tickTotal inps) % 256

/-- R54 (c) to (h), R6, R7, R133: the block right after reset meets the invariants, under every legal configuration, and so
does the phase invariant; `State.reset` is one such state. -/
def Obligations.InvariantsHoldAtReset : Prop :=
  (∀ c : Config, c.Legal → Inv (State.resetWith c) ∧ PhaseInv (State.resetWith c).regs) ∧ Inv State.reset

/-- R54 (c) to (h), R6, R7, R35, R36, R133: every step, an operation or a clock cycle, keeps the invariants: the masks in
width, the scan indices in range, pre-alarm off when disabled, silence only on driven circuits, the reset request equal to
HALTED, the countdown at most RESET_DELAY. The spec marks R54 as its own derivation. -/
def Obligations.EveryStepKeepsTheInvariants : Prop :=
  ∀ s t : State, Inv s → step s = .next t → Inv t
end

