-- ==== Sys2Proof/Laws/State.lean ====
section
/-! SUPPORT. What each update of the state leaves, field by field, and the reset state. -/

namespace Sys2Proof.Machine

variable (s : State) (d : Driver) (r : Regs) (c : Config) (inp : Input)

@[simp] theorem State.withDriver_cfg : (s.withDriver d).cfg = s.cfg := rfl
@[simp] theorem State.withDriver_regs : (s.withDriver d).regs = s.regs := rfl
@[simp] theorem State.withDriver_driver : (s.withDriver d).driver = d := rfl
@[simp] theorem State.withDriver_draws : (s.withDriver d).draws = s.draws := rfl

@[simp] theorem State.withRegs_cfg : (s.withRegs r).cfg = s.cfg := rfl
@[simp] theorem State.withRegs_regs : (s.withRegs r).regs = r := rfl
@[simp] theorem State.withRegs_driver : (s.withRegs r).driver = s.driver := rfl
@[simp] theorem State.withRegs_draws : (s.withRegs r).draws = s.draws := rfl

@[simp] theorem State.drawn_cfg : s.drawn.cfg = s.cfg := rfl
@[simp] theorem State.drawn_regs : s.drawn.regs = s.regs := rfl
@[simp] theorem State.drawn_driver : s.drawn.driver = s.driver := rfl
@[simp] theorem State.drawn_draws : s.drawn.draws = s.draws + 1 := rfl

@[simp] theorem State.cycle_cfg : (s.cycle inp).cfg = s.cfg := rfl
@[simp] theorem State.cycle_regs : (s.cycle inp).regs = s.regs.cycle s.cfg s.freeSettle inp := rfl
@[simp] theorem State.cycle_driver : (s.cycle inp).driver = s.driver := rfl
@[simp] theorem State.cycle_draws : (s.cycle inp).draws = s.draws + 1 := rfl

@[simp] theorem State.runCycles_nil : s.runCycles [] = s := rfl
@[simp] theorem State.runCycles_cons (inps : List Input) : s.runCycles (inp :: inps) = (s.cycle inp).runCycles inps := rfl

@[simp] theorem State.resetWith_cfg : (State.resetWith c).cfg = c := rfl
@[simp] theorem State.resetWith_regs : (State.resetWith c).regs = Regs.reset := rfl
@[simp] theorem State.resetWith_driver : (State.resetWith c).driver = .cycles [] := rfl
@[simp] theorem State.resetWith_draws : (State.resetWith c).draws = 0 := rfl

@[simp] theorem Regs.expire_halted : r.expire.halted = true := rfl
@[simp] theorem Regs.expire_oSysResetReq : r.expire.oSysResetReq = true := rfl

@[simp] theorem Regs.onlyIf_true (op : Regs → Regs) : r.onlyIf true op = op r := rfl
@[simp] theorem Regs.onlyIf_false (op : Regs → Regs) : r.onlyIf false op = r := rfl

/-- The configuration the model carries at reset is legal. -/
theorem ex1_legal : Config.ex1.Legal := by decide

end Sys2Proof.Machine
end

