-- ==== Sys2Proof/Laws/Classifier.lean ====
section
/-! SUPPORT. Holding a classifier as its list of ranges loses nothing: every predicate on an ADC_W-bit sample is the
classifier of some legal list of ranges (R12, log entry 3). -/

namespace Sys2Proof.Machine

/-- Membership of a raw value in a list of ranges. -/
def inRanges (rs : List (Nat × Nat)) (v : Nat) : Bool := rs.any fun p => decide (p.1 ≤ v ∧ v ≤ p.2)

/-- A canonical list of ranges may start lower. -/
theorem rangesLegal_mono {bound a b : Nat} (hab : a ≤ b) {rs : List (Nat × Nat)} (h : rangesLegal bound b rs = true) :
    rangesLegal bound a rs = true := by
  cases rs with
  | nil => rfl
  | cons p rest =>
    obtain ⟨lo, hi⟩ := p
    simp only [rangesLegal, Bool.and_eq_true, decide_eq_true_eq] at *
    exact ⟨⟨by omega, h.1.2.1, h.1.2.2⟩, h.2⟩

/-- A canonical list holds no value below its start. -/
theorem inRanges_below {bound : Nat} : ∀ {rs : List (Nat × Nat)} {least v : Nat},
    rangesLegal bound least rs = true → v < least → inRanges rs v = false
  | [], _, _, _, _ => rfl
  | (lo, hi) :: rest, least, v, h, hv => by
    simp only [rangesLegal, Bool.and_eq_true, decide_eq_true_eq] at h
    have hrest := inRanges_below (v := v) h.2 (by omega)
    simp only [inRanges, List.any_cons, Bool.or_eq_false_iff, decide_eq_false_iff_not] at hrest ⊢
    exact ⟨by omega, hrest⟩

/-- The canonical ranges of a predicate on the last `k` values below `bound`. -/
theorem exists_ranges (p : Nat → Bool) (bound : Nat) : ∀ k, k ≤ bound →
    ∃ rs, rangesLegal bound (bound - k) rs = true ∧ ∀ v, bound - k ≤ v → v < bound → inRanges rs v = p v := by
  intro k
  induction k with
  | zero => exact fun _ => ⟨[], rfl, fun v h1 h2 => absurd h2 (by omega)⟩
  | succ k ih =>
    intro hk
    obtain ⟨rs, hl, hv⟩ := ih (by omega)
    have hsucc : bound - (k + 1) + 1 = bound - k := by omega
    generalize hn : bound - (k + 1) = n at *
    rw [← hsucc] at hl hv
    by_cases hp : p n = true
    · match rs, hl, hv with
      | [], _, hv =>
        refine ⟨[(n, n)], ?_, ?_⟩
        · simp [rangesLegal]; omega
        · intro v h1 h2
          by_cases hvn : v = n
          · subst hvn; simp [inRanges, hp]
          · rw [← hv v (by omega) h2]; simp [inRanges]; omega
      | (lo, hi) :: rest, hl, hv =>
        simp only [rangesLegal, Bool.and_eq_true, decide_eq_true_eq] at hl
        by_cases hlo : lo = n + 1
        · refine ⟨(n, hi) :: rest, ?_, ?_⟩
          · simp only [rangesLegal, Bool.and_eq_true, decide_eq_true_eq]
            exact ⟨by omega, hl.2⟩
          · intro v h1 h2
            by_cases hvn : v = n
            · subst hvn
              have : v ≤ hi := by omega
              simp [inRanges, hp, this]
            · rw [← hv v (by omega) h2]
              simp only [inRanges, List.any_cons]
              congr 1
              simp only [decide_eq_decide]
              omega
        · refine ⟨(n, n) :: (lo, hi) :: rest, ?_, ?_⟩
          · simp only [rangesLegal, Bool.and_eq_true, decide_eq_true_eq]
            exact ⟨by omega, by omega, hl.2⟩
          · intro v h1 h2
            by_cases hvn : v = n
            · subst hvn; simp [inRanges, hp]
            · rw [← hv v (by omega) h2]
              simp only [inRanges, List.any_cons]
              have : decide (n ≤ v ∧ v ≤ n) = false := by simp; omega
              rw [this, Bool.false_or]
    · refine ⟨rs, rangesLegal_mono (by omega) hl, ?_⟩
      intro v h1 h2
      by_cases hvn : v = n
      · subst hvn
        rw [inRanges_below hl (by omega)]
        simpa using hp
      · exact hv v (by omega) h2

/-- Every classifier of the spec has its form here. -/
theorem exists_classifier (w : Nat) (p : Nat → Bool) :
    ∃ c : Classifier, c.Legal w ∧ ∀ raw : BitVec 16, raw.toNat < 2 ^ w → classifies c raw = p raw.toNat := by
  obtain ⟨rs, hl, hv⟩ := exists_ranges p (2 ^ w) (2 ^ w) (Nat.le_refl _)
  refine ⟨⟨rs⟩, by simpa using hl, fun raw hr => ?_⟩
  exact hv raw.toNat (by omega) hr

end Sys2Proof.Machine
end

