-- ==== Sys2Proof/Laws/Decode.lean ====
section
/-! SUPPORT. The small lemmas of the decoder. -/

namespace Sys2Proof

/-- An operand in range is read back from its zero-extended byte (R83). -/
@[simp] theorem narrow_setWidth {n : Nat} (hn : n ≤ 8) (v : BitVec n) : narrow n (v.setWidth 8) = some v := by
  have hlt : v.toNat < 2 ^ 8 := lt_of_lt_of_le v.isLt (Nat.pow_le_pow_right (by decide) hn)
  have : (v.setWidth 8).toNat = v.toNat := by
    rw [BitVec.toNat_setWidth, Nat.mod_eq_of_lt hlt]
  unfold narrow
  rw [if_pos (by rw [this]; exact v.isLt)]
  congr 1
  apply BitVec.eq_of_toNat_eq
  rw [BitVec.toNat_setWidth, this, Nat.mod_eq_of_lt v.isLt]

/-- A byte that `narrow` reads is the zero-extension of what it reads (R83). -/
theorem narrow_eq_some {n : Nat} {b : Byte} {v : BitVec n} (h : narrow n b = some v) :
    b = v.setWidth 8 := by
  unfold narrow at h
  split at h
  · rename_i hb
    cases h
    apply BitVec.eq_of_toNat_eq
    rw [BitVec.toNat_setWidth, BitVec.toNat_setWidth, Nat.mod_eq_of_lt hb, Nat.mod_eq_of_lt b.isLt]
  · cases h

/-- What a one-byte operand leaves of the program (R83). -/
theorem oneByte_ok {n : Nat} {mk : BitVec n → Instr} {bs rest : List Byte} {i : Instr}
    (h : oneByte n mk bs = .ok (i, rest)) : ∃ v, i = mk v ∧ bs = v.setWidth 8 :: rest := by
  cases bs with
  | nil => cases h
  | cons b bs =>
    simp only [oneByte] at h
    split at h
    · rename_i v hv
      cases h
      exact ⟨v, rfl, by rw [narrow_eq_some hv]⟩
    · cases h

/-- The word of an instruction names its operation (R82). -/
@[simp] theorem ofWord_word (i : Instr) : Opcode.ofWord i.word = some i.opcode := by
  cases i <;> rfl

/-- An operation word names one operation: an instruction of that operation has that word (R82). -/
theorem word_of_ofWord {w : Byte} {i : Instr} (h : Opcode.ofWord w = some i.opcode) : i.word = w := by
  unfold Opcode.ofWord at h
  split at h <;> cases i <;> first | rfl | cases h

/-- After its word, an instruction decodes as its operation's operands do (R83). -/
theorem decode_word (i : Instr) (rest : List Byte) : decode (i.word :: rest) = i.opcode.operands rest := by
  rw [decode, ofWord_word]

end Sys2Proof
end

