-- ==== Sys2Proof/Laws/Ops.lean ====
section
/-! SUPPORT. The primitives over bits and lanes, bit by bit. -/

namespace Sys2Proof.Machine

/-- A written bit reads as what was written, every other bit as before. -/
@[simp] theorem getLsbD_writeBit {w : Nat} (v : BitVec w) (i j : Nat) (b : Bool) :
    (writeBit v i b).getLsbD j = if j = i then (decide (i < w) && b) else v.getLsbD j := by
  unfold writeBit
  cases b <;> by_cases h : j = i <;> by_cases hw : i < w <;> by_cases hj : j < w <;>
    simp_all

/-- A write of a lane that the mask does not have writes nothing. -/
theorem getLsbD_writeLane (n : Nat) (v : Mask) (i j : Nat) (b : Bool) :
    (writeLane n v i b).getLsbD j = if j = i ∧ i < n then (decide (i < 8) && b) else v.getLsbD j := by
  unfold writeLane
  by_cases h : i < n <;> by_cases hj : j = i <;> simp [h, hj]

/-- Lane `j` of a mask built lane by lane. -/
@[simp] theorem getLsbD_lanes (f : Nat → Bool) (n j : Nat) :
    (lanes f n).getLsbD j = (decide (j < n ∧ j < 8) && f j) := by
  induction n with
  | zero => simp [lanes]
  | succ n ih =>
    rw [lanes, getLsbD_writeBit]
    by_cases h : j = n
    · subst h; simp
    · have hlt : (j < n + 1 ∧ j < 8) ↔ (j < n ∧ j < 8) := by omega
      rw [if_neg h, ih, decide_eq_decide.mpr hlt]

@[simp] theorem getLsbD_rise {w : Nat} (cur prev : BitVec w) (j : Nat) :
    (rise cur prev).getLsbD j = (cur.getLsbD j && !prev.getLsbD j) := by
  by_cases h : j < w
  · simp [rise, h]
  · simp [rise, BitVec.getLsbD_of_ge _ j (Nat.le_of_not_lt h)]

/-- The buttons of a cycle, bit by bit (R139: bit 0 reset, 1 acknowledge, 2 silence, 3 function). -/
theorem getLsbD_btn (inp : Input) :
    (Input.btn inp).getLsbD 0 = inp.btnReset ∧ (Input.btn inp).getLsbD 1 = inp.btnAck ∧ (Input.btn inp).getLsbD 2 = inp.btnSilence ∧
    (Input.btn inp).getLsbD 3 = inp.btnFunction := by
  rcases inp with ⟨_, _, _, a, b, c, d, _, _⟩
  simp only [Input.btn]
  revert a b c d
  decide

@[simp] theorem getLsbD_fall {w : Nat} (cur prev : BitVec w) (j : Nat) :
    (fall cur prev).getLsbD j = (!cur.getLsbD j && prev.getLsbD j) := by
  by_cases h : j < w
  · simp [fall, h]
  · simp [fall, BitVec.getLsbD_of_ge _ j (Nat.le_of_not_lt h)]

/-- A mask fits `n` lanes when and only when it has no bit at or above `n`. -/
theorem fits_iff_bits (m : Mask) (n : Nat) : Mask.Fits m n ↔ ∀ j, n ≤ j → m.getLsbD j = false := by
  constructor
  · intro h j hj
    exact Nat.testBit_lt_two_pow (lt_of_lt_of_le h (Nat.pow_le_pow_right (by decide) hj))
  · intro h
    exact Nat.lt_pow_two_of_testBit _ fun j hj => h j hj

/-- Bitwise work on masks stays in width. -/
theorem fits_lanes (f : Nat → Bool) (n : Nat) : Mask.Fits (lanes f n) n := by
  rw [fits_iff_bits]
  intro j hj
  simp [Nat.not_lt.mpr hj]

theorem fits_writeLane {m : Mask} {n : Nat} (h : Mask.Fits m n) (i : Nat) (b : Bool) :
    Mask.Fits (writeLane n m i b) n := by
  rw [fits_iff_bits] at *
  intro j hj
  rw [getLsbD_writeLane, if_neg (by omega), h j hj]

theorem fits_or {a b : Mask} {n : Nat} (ha : Mask.Fits a n) (hb : Mask.Fits b n) : Mask.Fits (a ||| b) n := by
  rw [fits_iff_bits] at *
  intro j hj
  simp [ha j hj, hb j hj]

theorem fits_xor {a b : Mask} {n : Nat} (ha : Mask.Fits a n) (hb : Mask.Fits b n) : Mask.Fits (a ^^^ b) n := by
  rw [fits_iff_bits] at *
  intro j hj
  simp [ha j hj, hb j hj]

theorem fits_and_left {a : Mask} (b : Mask) {n : Nat} (ha : Mask.Fits a n) : Mask.Fits (a &&& b) n := by
  rw [fits_iff_bits] at *
  intro j hj
  simp [ha j hj]

/-- A rise or a fall of masks in width is in width. -/
theorem fits_rise {cur : Mask} (prev : Mask) {n : Nat} (h : Mask.Fits cur n) : Mask.Fits (rise cur prev) n :=
  fits_and_left _ h

theorem fits_fall (cur : Mask) {prev : Mask} {n : Nat} (h : Mask.Fits prev n) : Mask.Fits (fall cur prev) n := by
  rw [fits_iff_bits] at *
  intro j hj
  simp [h j hj]

/-- A channel never rises and falls at once (R136). -/
theorem rise_and_fall {w : Nat} (cur prev : BitVec w) : rise cur prev &&& fall cur prev = 0 := by
  ext j hj
  simp [rise, fall]
  grind

end Sys2Proof.Machine
end

