-- ==== Sys2Proof/Laws/Exec.lean ====
section
/-! SUPPORT. What each shared operation can do, said once: an instruction runs one function of the registers, a step is
either an operation or a clock cycle. -/

namespace Sys2Proof.Machine

/-- The function of the registers that an instruction runs. -/
def effect (i : Instr) (free : BitVec 16) (c : Config) (r : Regs) : Regs :=
  match i with
  | .tickCount => tickCount r
  | .div2 => div2 r
  | .rcExpire => rcExpire r
  | .div4 => div4 r
  | .div8 => div8 r
  | .scanStart => scanStart c r
  | .settleStep => settleStep free r
  | .sampleDone raw gt => sampleDone c raw gt r
  | .cycleEnd gt => cycleEnd gt r
  | .btnEdge btn => btnEdge btn r
  | .alarmEdge m => alarmEdge c m r
  | .troubleEdgeSlc m => troubleEdgeSlc m r
  | .troubleEdgeNac m => troubleEdgeNac m r
  | .troubleEdgeGen m => troubleEdgeGen m r
  | .troubleRestoreSlc m => troubleRestoreSlc m r
  | .troubleRestoreNac m => troubleRestoreNac m r
  | .troubleRestoreGen m => troubleRestoreGen m r
  | .ack => acknowledgeTop r
  | .silence => silence c r
  | .resetArm => resetArm c r
  | .functionBtn => functionBtn r
  | .uiRecompute => uiRecompute r
  | .nacActivate => nacActivate c r
  | .nacCode => nacCode c r
  | .outputDrive => outputDrive r

/-- The free values an instruction draws: SETTLE_STEP one, every other none. -/
def drawsOf : Instr → Nat
  | .settleStep => 1
  | _ => 0

/-- The whole of what an instruction does in a running block. -/
theorem exec_running (i : Instr) {s : State} (h : s.regs.halted = false) :
    exec i s = .next { s with regs := effect i s.freeSettle s.cfg s.regs, draws := s.draws + drawsOf i } := by
  cases i <;> simp [exec, execTickCount, execDiv2, execRcExpire, execDiv4, execDiv8, execScanStart, execSettleStep,
    execSampleDone, execCycleEnd, execBtnEdge, execAlarmEdge, execTroubleEdgeSlc, execTroubleEdgeNac,
    execTroubleEdgeGen, execTroubleRestoreSlc, execTroubleRestoreNac, execTroubleRestoreGen, execAck, execSilence,
    execResetArm, execFunctionBtn, execUiRecompute, execNacActivate, execNacCode, execOutputDrive, State.operate, h,
    effect, drawsOf, State.drawn, State.withRegs]

/-- What an instruction that answers a next state has done: the configuration and the driver are as before, and either
the block was halted and nothing changed, or the registers are the instruction's function of the registers before. -/
theorem exec_next_cases {i : Instr} {s t : State} (h : exec i s = .next t) :
    t.cfg = s.cfg ∧ t.driver = s.driver ∧
      ((s.regs.halted = true ∧ t.regs = s.regs) ∨
        (s.regs.halted = false ∧ t.regs = effect i s.freeSettle s.cfg s.regs)) := by
  by_cases hh : s.regs.halted = true
  · have ht : exec i s = .next s := by
      cases i <;> simp [exec, execTickCount, execDiv2, execRcExpire, execDiv4, execDiv8, execScanStart, execSettleStep,
        execSampleDone, execCycleEnd, execBtnEdge, execAlarmEdge, execTroubleEdgeSlc, execTroubleEdgeNac,
        execTroubleEdgeGen, execTroubleRestoreSlc, execTroubleRestoreNac, execTroubleRestoreGen, execAck, execSilence,
        execResetArm, execFunctionBtn, execUiRecompute, execNacActivate, execNacCode, execOutputDrive, State.operate, hh]
    rw [ht] at h
    cases h
    exact ⟨rfl, rfl, .inl ⟨hh, rfl⟩⟩
  · rw [Bool.not_eq_true] at hh
    rw [exec_running i hh] at h
    cases h
    exact ⟨rfl, rfl, .inr ⟨hh, rfl⟩⟩

/-- No instruction stops the machine: every meaning answers a next state, in every state (R240). -/
theorem exec_answers_next (i : Instr) (s : State) : ∃ t, exec i s = .next t := by
  cases i <;> exact ⟨_, rfl⟩

/-- A step of an operation-level run under a legal configuration is the decoder's verdict: the operation run, or the
rejection's refusal (R83, R241). -/
theorem step_operations {s : State} {bytes : List Byte} (hd : s.driver = .operations bytes) (hl : s.cfg.Legal) :
    step s = match decodeFor s.cfg bytes with
      | .error e => .refused (refusalOf e)
      | .ok (i, rest) => exec i (s.withDriver (.operations rest)) := by
  simp only [step, hd, fetchOperation, if_pos hl]
  cases decodeFor s.cfg bytes <;> rfl

/-- What `fetchOperation` does when it fetches: the configuration is legal, the bytes decode to a well-formed
instruction, and the state is the same but for the bytes taken. -/
theorem fetchOperation_ok {bytes : List Byte} {s s' : State} {i : Instr} (h : fetchOperation bytes s = .ok (i, s')) :
    s.cfg.Legal ∧ i.wellFormed s.cfg = true ∧
      ∃ rest, decode bytes = .ok (i, rest) ∧ s' = s.withDriver (.operations rest) := by
  unfold fetchOperation at h
  split at h
  · rename_i hl
    refine ⟨hl, ?_⟩
    unfold decodeFor at h
    rcases hd : decode bytes with e | ⟨j, rest⟩
    · simp [hd] at h
    · by_cases hw : j.wellFormed s.cfg = true
      · simp only [hd, hw, if_true, Except.ok.injEq, Prod.mk.injEq] at h
        obtain ⟨rfl, rfl⟩ := h
        exact ⟨hw, rest, rfl, rfl⟩
      · simp [hd, hw] at h
  · cases h

/-- What a clock cycle that answers a next state has done: the configuration on the pins is legal and, unless the cycle
is a reset, the one in force; the stimulus word decodes; the state is that of one CYCLE. -/
theorem runStimulus_next {x : Stimulus} {s t : State} (h : runStimulus x s = .next t) :
    (x.config.getD s.cfg).Legal ∧ ∃ inp, decodeStimulus (x.config.getD s.cfg) x.word = some inp ∧
      (inp.rst = true ∨ x.config.getD s.cfg = s.cfg) ∧
      t = State.cycle { s with cfg := x.config.getD s.cfg } inp := by
  simp only [runStimulus, runUnder] at h
  split at h
  · rename_i hl
    refine ⟨hl, ?_⟩
    split at h
    · cases h
    · rename_i inp hd
      split at h
      · cases h
      · rename_i hc
        cases h
        refine ⟨inp, hd, ?_, rfl⟩
        by_cases hr : inp.rst = true
        · exact .inl hr
        · exact .inr (not_not.mp fun hne => hc ⟨by simpa using hr, hne⟩)
  · cases h

/-- When a clock cycle answers a next state: the converse of `runStimulus_next`. -/
theorem runStimulus_cycle {x : Stimulus} {s : State} {inp : Input} (hl : (x.config.getD s.cfg).Legal)
    (hd : decodeStimulus (x.config.getD s.cfg) x.word = some inp)
    (hr : inp.rst = true ∨ x.config.getD s.cfg = s.cfg) :
    runStimulus x s = .next (State.cycle { s with cfg := x.config.getD s.cfg } inp) := by
  have hc : ¬ (inp.rst = false ∧ x.config.getD s.cfg ≠ s.cfg) := fun h =>
    hr.elim (fun hr => by rw [hr] at h; cases h.1) h.2
  simp only [runStimulus, runUnder, hd, if_pos hl, if_neg hc]

/-- A clock cycle under an illegal configuration is refused (R241 code 1). -/
theorem runStimulus_illegal {x : Stimulus} {s : State} (hl : ¬ (x.config.getD s.cfg).Legal) :
    runStimulus x s = .refused .refuseConfig := by
  simp only [runStimulus, runUnder, if_neg hl]

/-- A clock cycle on a word that does not decode is refused (R241 code 5). -/
theorem runStimulus_undecoded {x : Stimulus} {s : State} (hl : (x.config.getD s.cfg).Legal)
    (hd : decodeStimulus (x.config.getD s.cfg) x.word = none) :
    runStimulus x s = .refused (.refuseStimulus x.word) := by
  simp only [runStimulus, runUnder, hd, if_pos hl]

/-- What a clock cycle refused for its stimulus has met: a legal configuration and a word that does not decode. -/
theorem runStimulus_refuseStimulus {x : Stimulus} {s : State} {w : StimulusWord}
    (h : runStimulus x s = .refused (.refuseStimulus w)) :
    (x.config.getD s.cfg).Legal ∧ decodeStimulus (x.config.getD s.cfg) x.word = none ∧ x.word = w := by
  simp only [runStimulus, runUnder] at h
  split at h
  · rename_i hl
    split at h
    · rename_i hd
      cases h
      exact ⟨hl, hd, rfl⟩
    · split at h <;> cases h
  · cases h

/-- A changed configuration without `rst` is refused (R241 code 2, R277). -/
theorem runStimulus_changed {x : Stimulus} {s : State} {inp : Input} (hl : (x.config.getD s.cfg).Legal)
    (hd : decodeStimulus (x.config.getD s.cfg) x.word = some inp) (hr : inp.rst = false)
    (hc : x.config.getD s.cfg ≠ s.cfg) :
    runStimulus x s = .refused .refuseConfigChange := by
  simp only [runStimulus, runUnder, hd, if_pos hl, if_pos (show _ ∧ _ from ⟨hr, hc⟩)]

/-- A step of a cycle-level run is a clock cycle on its next stimulus (R84). -/
theorem step_cycles {s : State} {x : Stimulus} {rest : List Stimulus} (hd : s.driver = .cycles (x :: rest)) :
    step s = runStimulus x (s.withDriver (.cycles rest)) := by
  simp only [step, hd]

/-- What a step that answers a next state has done: it has run the operation its program's bytes decode to, or it has
performed one clock cycle on its next stimulus. -/
theorem step_next_cases {s t : State} (h : step s = .next t) :
    (∃ bytes i rest, s.driver = .operations bytes ∧ s.cfg.Legal ∧ decode bytes = .ok (i, rest) ∧
        i.wellFormed s.cfg = true ∧ exec i (s.withDriver (.operations rest)) = .next t) ∨
    (∃ x rest inp, s.driver = .cycles (x :: rest) ∧ (x.config.getD s.cfg).Legal ∧
        decodeStimulus (x.config.getD s.cfg) x.word = some inp ∧ (inp.rst = true ∨ x.config.getD s.cfg = s.cfg) ∧
        t = State.cycle { s with cfg := x.config.getD s.cfg, driver := .cycles rest } inp) := by
  simp only [step] at h
  split at h
  · rename_i bytes hd
    split at h
    · rename_i i s' hf
      obtain ⟨hl, hw, rest, hdec, rfl⟩ := fetchOperation_ok hf
      exact .inl ⟨bytes, i, rest, hd, hl, hdec, hw, h⟩
    · cases h
  · cases h
  · rename_i x rest hd
    obtain ⟨hl, inp, hdec, hr, rfl⟩ := runStimulus_next h
    exact .inr ⟨x, rest, inp, hd, hl, hdec, hr, rfl⟩

end Sys2Proof.Machine
end

