-- ==== Sys2Proof/Laws/PerInstr.lean ====
section
/-! SUPPORT. Laws of every instruction as syntax, one lemma per constructor. WordFields: the operation word names the
operation (R82) and its program bytes are as many as its operands take (R83). -/

namespace Sys2Proof.Laws.WordFields

open Sys2Proof

/-- The operation word of an instruction names its operation, and the instruction has the operand bytes of its forms. -/
def Statement (i : Instr) : Prop :=
  Opcode.ofWord i.word = some i.opcode ∧ (encode i).length = 1 + operandCount i.word

theorem tickCount : Statement .tickCount := ⟨rfl, rfl⟩
theorem div2 : Statement .div2 := ⟨rfl, rfl⟩
theorem rcExpire : Statement .rcExpire := ⟨rfl, rfl⟩
theorem div4 : Statement .div4 := ⟨rfl, rfl⟩
theorem div8 : Statement .div8 := ⟨rfl, rfl⟩
theorem scanStart : Statement .scanStart := ⟨rfl, rfl⟩
theorem settleStep : Statement .settleStep := ⟨rfl, rfl⟩
theorem sampleDone (raw : BitVec 16) (gt : BitVec 1) : Statement (.sampleDone raw gt) := ⟨rfl, rfl⟩
theorem cycleEnd (gt : BitVec 1) : Statement (.cycleEnd gt) := ⟨rfl, rfl⟩
theorem btnEdge (btn : BitVec 4) : Statement (.btnEdge btn) := ⟨rfl, rfl⟩
theorem alarmEdge (m : Mask) : Statement (.alarmEdge m) := ⟨rfl, rfl⟩
theorem troubleEdgeSlc (m : Mask) : Statement (.troubleEdgeSlc m) := ⟨rfl, rfl⟩
theorem troubleEdgeNac (m : Mask) : Statement (.troubleEdgeNac m) := ⟨rfl, rfl⟩
theorem troubleEdgeGen (m : BitVec 1) : Statement (.troubleEdgeGen m) := ⟨rfl, rfl⟩
theorem troubleRestoreSlc (m : Mask) : Statement (.troubleRestoreSlc m) := ⟨rfl, rfl⟩
theorem troubleRestoreNac (m : Mask) : Statement (.troubleRestoreNac m) := ⟨rfl, rfl⟩
theorem troubleRestoreGen (m : BitVec 1) : Statement (.troubleRestoreGen m) := ⟨rfl, rfl⟩
theorem ack : Statement .ack := ⟨rfl, rfl⟩
theorem silence : Statement .silence := ⟨rfl, rfl⟩
theorem resetArm : Statement .resetArm := ⟨rfl, rfl⟩
theorem functionBtn : Statement .functionBtn := ⟨rfl, rfl⟩
theorem uiRecompute : Statement .uiRecompute := ⟨rfl, rfl⟩
theorem nacActivate : Statement .nacActivate := ⟨rfl, rfl⟩
theorem nacCode : Statement .nacCode := ⟨rfl, rfl⟩
theorem outputDrive : Statement .outputDrive := ⟨rfl, rfl⟩

end Sys2Proof.Laws.WordFields
end

