-- ==== Sys2Proof/Laws/Units.lean ====
section
/-! SUPPORT. One equation for each operation with cases, and for each phase of the cycle: the registers after it, as one
record whose fields say when they change. A later proof reads a field of the record and unfolds nothing. -/

namespace Sys2Proof.Machine

variable (c : Config) (r : Regs)

/-- A field read after a conditional operation. -/
theorem Regs.apply_onlyIf {α : Type} (f : Regs → α) (b : Bool) (op : Regs → Regs) :
    f (r.onlyIf b op) = if b = true then f (op r) else f r := by
  cases b <;> rfl

/-- An operation that does nothing on an empty mask may run whatever the mask is. -/
theorem Regs.onlyIf_ne_zero {w : Nat} (m : BitVec w) (op : Regs → Regs) (h : m = 0 → op r = r) :
    r.onlyIf (m != 0) op = op r := by
  by_cases hm : m = 0
  · rw [h hm]
    cases m != 0
    · rfl
    · exact h hm
  · have hb : (m != 0) = true := by simpa using hm
    rw [hb]
    rfl

@[simp] theorem latch_zero {w : Nat} (v : BitVec w) : latch v 0 = v := by
  ext i hi
  simp [latch]

@[simp] theorem restore_zero {w : Nat} (v : BitVec w) : restore v 0 = v := by
  ext i hi
  simp [restore]

@[simp] theorem troubleUnack_zero (w : Nat) (cc : BitVec 3) : troubleUnack (0 : BitVec w) cc = cc := by
  simp [troubleUnack]

/-- Taking 1 off a countdown gives 0 exactly when it is 1 (R102). -/
theorem sub_one_eq_zero {w : Nat} (v : BitVec w) : v - 1 = 0 ↔ v = 1 := by
  constructor
  · intro h
    have := congrArg (· + 1) h
    simpa using this
  · rintro rfl
    simp

theorem div2_eq : div2 r =
    { r with
      tsFlash := !r.tsFlash
      tsRc := if r.tsRc = 0 then r.tsRc else r.tsRc - 1
      oSysResetReq := r.tsRc == 1 || r.oSysResetReq
      halted := r.tsRc == 1 || r.halted } := by
  by_cases h0 : r.tsRc = 0
  · have h1 : (r.tsRc == 1) = false := by rw [h0]; decide
    simp only [div2, countDown, if_pos h0, h1, Bool.false_or]
  · by_cases h1 : r.tsRc = 1
    · have h2 : (r.tsRc == 1) = true := by rw [h1]; decide
      have h3 : r.tsRc - 1 = 0 := by rw [h1]; decide
      simp only [div2, countDown, if_neg h0, if_pos h3, h2, Bool.true_or, Regs.expire]
    · have h2 : (r.tsRc == 1) = false := by simpa using h1
      have h3 : ¬ r.tsRc - 1 = 0 := fun h => h1 ((sub_one_eq_zero r.tsRc).mp h)
      simp only [div2, countDown, if_neg h0, if_neg h3, h2, Bool.false_or]

/-- The new TS_C is a multiple of 2, 4 or 8 when the old one's successor is (R67). -/
theorem tsC_succ_mod {n : Nat} (hn : n ∣ 256) (v : BitVec 8) : (v + 1).toNat % n = (v.toNat + 1) % n := by
  rw [BitVec.toNat_add]
  exact Nat.mod_mod_of_dvd _ hn

/-- The tick expires the countdown: the new TS_C is even and TS_RC is 1 (R102, R103). -/
def tickExpires (r : Regs) : Bool := (r.tsC.toNat + 1) % 2 == 0 && r.tsRc == 1

/-- Phase A of a tick in a running block (R67): every register it may change, and when. -/
theorem phaseA_tick_eq (h : r.halted = false) : phaseA true r =
    { r with
      tsC := r.tsC + 1
      tsFlash := if (r.tsC.toNat + 1) % 2 = 0 then !r.tsFlash else r.tsFlash
      tsRc := if (r.tsC.toNat + 1) % 2 = 0 ∧ r.tsRc ≠ 0 then r.tsRc - 1 else r.tsRc
      oSysResetReq := tickExpires r || r.oSysResetReq
      halted := tickExpires r
      tsMt := if (r.tsC.toNat + 1) % 4 = 0 ∧ tickExpires r = false then !r.tsMt else r.tsMt
      tsBuzz := if (r.tsC.toNat + 1) % 8 = 0 ∧ tickExpires r = false then !r.tsBuzz else r.tsBuzz
      tsT3 := if (r.tsC.toNat + 1) % 8 = 0 ∧ tickExpires r = false then r.tsT3 + 1 else r.tsT3
      scanReq := ((r.tsC.toNat + 1) % 8 == 0 && !tickExpires r) || r.scanReq } := by
  rcases r with ⟨tsC, _, _, _, _, tsRc⟩
  simp only at h
  subst h
  simp only [phaseA, Regs.onlyIf_true, tickOps, tickCount, tickExpires]
  by_cases h2 : (tsC.toNat + 1) % 2 = 0
  · have e2 : ((tsC + 1).toNat % 2 == 0) = true := by rw [tsC_succ_mod (by decide)]; simpa using h2
    simp only [e2, Regs.onlyIf_true, div2_eq]
    by_cases h1 : tsRc = 1
    · subst h1
      simp [h2]
    · have e1 : (tsRc == 1) = false := by simpa using h1
      simp only [e1, h2, Bool.false_or, Bool.and_false, beq_self_eq_true, tsC_succ_mod (show 4 ∣ 256 by decide),
        Regs.onlyIf]
      by_cases h4 : (tsC.toNat + 1) % 4 = 0 <;> by_cases h8 : (tsC.toNat + 1) % 8 = 0 <;> by_cases h0 : tsRc = 0 <;>
        simp [h4, h8, h0, div4, div8]
  · have e2 : ((tsC + 1).toNat % 2 == 0) = false := by rw [tsC_succ_mod (by decide)]; simpa using h2
    have h4 : ¬ (tsC.toNat + 1) % 4 = 0 := by omega
    have h8 : ¬ (tsC.toNat + 1) % 8 = 0 := by omega
    have e4 : ((tsC + 1).toNat % 4 == 0) = false := by rw [tsC_succ_mod (by decide)]; simpa using h4
    have e8 : ((tsC + 1).toNat % 8 == 0) = false := by rw [tsC_succ_mod (by decide)]; simpa using h8
    simp only [e2, e4, e8, Regs.onlyIf_false, Bool.false_eq_true, if_false]
    simp [h2, h4, h8]

/-- Phase A of a cycle without a tick does nothing (R67). -/
@[simp] theorem phaseA_no_tick : phaseA false r = r := rfl

theorem settleStep_eq (free : BitVec 16) : settleStep free r =
    { r with
      scSettle := settleDown free r.scSettle
      oAdcStart := settleDown free r.scSettle == 0 || r.oAdcStart
      scState := if settleDown free r.scSettle = 0 then .converting else r.scState } := by
  by_cases h : settleDown free r.scSettle = 0
  · have hb : (settleDown free r.scSettle == 0) = true := by simpa using h
    simp only [settleStep, if_pos h, hb, Bool.true_or]
  · have hb : (settleDown free r.scSettle == 0) = false := by simpa using h
    simp only [settleStep, if_neg h, hb, Bool.false_or]

/-- The stored sample: bit `k` of the alarm and trouble slots of an SLC, bit `k - N_SLC` of a NAC's (R134, R135). -/
theorem storeSample_eq (raw : BitVec 16) : storeSample c raw r =
    { r with
      hSaCur := if r.scCh.toNat < c.nSlc
        then writeLane c.nSlc r.hSaCur r.scCh.toNat (classifies c.clsSlcAlarm raw) else r.hSaCur
      hStCur := if r.scCh.toNat < c.nSlc
        then writeLane c.nSlc r.hStCur r.scCh.toNat (c.troubleClassifyEn && classifies c.clsSlcTrouble raw)
        else r.hStCur
      hNtCur := if r.scCh.toNat < c.nSlc then r.hNtCur
        else writeLane c.nNac r.hNtCur (r.scCh.toNat - c.nSlc)
          (c.troubleClassifyEn && classifies c.clsNacTrouble raw) } := by
  by_cases h : r.scCh.toNat < c.nSlc
  · simp only [storeSample, classify, channelOf, if_pos h]
  · simp only [storeSample, classify, channelOf, if_neg h]

/-- SAMPLE_DONE: the stored sample, and at the last channel the end of the scan cycle (R134, R136). -/
theorem sampleDone_eq (raw : BitVec 16) (gt : BitVec 1) : sampleDone c raw gt r =
    { r with
      hSaCur := (storeSample c raw r).hSaCur
      hStCur := (storeSample c raw r).hStCur
      hNtCur := (storeSample c raw r).hNtCur
      hSaPrev := if lastChannel c r then (storeSample c raw r).hSaCur else r.hSaPrev
      hStPrev := if lastChannel c r then (storeSample c raw r).hStCur else r.hStPrev
      hNtPrev := if lastChannel c r then (storeSample c raw r).hNtCur else r.hNtPrev
      hGtPrev := if lastChannel c r then gt else r.hGtPrev
      hGtCur := if lastChannel c r then gt else r.hGtCur
      scState := .idle
      scPtr := if lastChannel c r then 0 else r.scCh + 1 } := by
  cases h : lastChannel c r
  · simp [sampleDone, h, storeSample_eq]
  · simp [sampleDone, h, storeSample_eq, cycleEnd]

theorem alarmEdge_eq (m : Mask) : alarmEdge c m r =
    { r with
      crPa := if c.prealarmEn = true ∧ r.crPa = 0 then r.crPa ||| m else r.crPa
      crGa := if c.prealarmEn = true ∧ r.crPa = 0 then r.crGa else r.crGa ||| m
      cc := if m = 0 then r.cc
        else if c.prealarmEn = true ∧ r.crPa = 0 then markUnack r.cc .preAlarm else markUnack r.cc .generalAlarm } := by
  by_cases hm : m = 0
  · subst hm
    simp [alarmEdge]
  · by_cases hp : c.prealarmEn = true ∧ r.crPa = 0
    · simp only [alarmEdge, if_neg hm, if_pos hp]
    · simp only [alarmEdge, if_neg hm, if_neg hp]

/-- A silence press finds an alarm latched, so that it acts (R175). -/
theorem silence_eq : silence c r =
    { r with
      nacSilt := if r.crGa ≠ 0 then r.nacSilt ^^^ c.nacSilenceable
        else if r.crPa ≠ 0 then r.nacSilt ^^^ (c.nacSilenceable &&& c.nacPrealarm) else r.nacSilt
      ui := if r.crGa ≠ 0 ∨ r.crPa ≠ 0 then toggleSilence r.ui else r.ui } := by
  by_cases hg : r.crGa = 0
  · have ng : ¬ r.crGa ≠ 0 := not_not.mpr hg
    by_cases hp : r.crPa = 0
    · have np : ¬ r.crPa ≠ 0 := not_not.mpr hp
      simp only [silence, if_neg (show ¬ (r.crPa ≠ 0 ∧ r.crGa = 0) from fun h => h.1 hp), if_neg ng, if_neg np,
        if_neg (show ¬ (r.crGa ≠ 0 ∨ r.crPa ≠ 0) from fun h => h.elim ng np)]
    · simp only [silence, if_pos (show r.crPa ≠ 0 ∧ r.crGa = 0 from ⟨hp, hg⟩), if_neg ng, if_pos (show r.crPa ≠ 0 from hp),
        if_pos (show r.crGa ≠ 0 ∨ r.crPa ≠ 0 from .inr hp)]
  · simp only [silence, if_neg (show ¬ (r.crPa ≠ 0 ∧ r.crGa = 0) from fun h => hg h.2), if_pos (show r.crGa ≠ 0 from hg),
      if_pos (show r.crGa ≠ 0 ∨ r.crPa ≠ 0 from .inl hg)]

/-- The condition edges of a pass: alarms latched, trouble rises latched, trouble falls cleared (R69). -/
theorem edgeOps_eq (e : Strobes) : edgeOps c e r =
    { r with
      crPa := (alarmEdge c e.saRise r).crPa
      crGa := (alarmEdge c e.saRise r).crGa
      crSt := restore (latch r.crSt e.stRise) e.stFall
      crNt := restore (latch r.crNt e.ntRise) e.ntFall
      crGt := restore (latch r.crGt e.gtRise) e.gtFall
      cc := troubleUnack e.gtRise (troubleUnack e.ntRise (troubleUnack e.stRise (alarmEdge c e.saRise r).cc)) } := by
  have c1 := r.onlyIf_ne_zero e.saRise (alarmEdge c e.saRise) (fun h => if_pos h)
  have c2 := fun r : Regs => r.onlyIf_ne_zero e.stRise (troubleEdgeSlc e.stRise)
    (fun h => by simp only [troubleEdgeSlc, h, latch_zero, troubleUnack_zero])
  have c3 := fun r : Regs => r.onlyIf_ne_zero e.ntRise (troubleEdgeNac e.ntRise)
    (fun h => by simp only [troubleEdgeNac, h, latch_zero, troubleUnack_zero])
  have c4 := fun r : Regs => r.onlyIf_ne_zero e.gtRise (troubleEdgeGen e.gtRise)
    (fun h => by simp only [troubleEdgeGen, h, latch_zero, troubleUnack_zero])
  have c5 := fun r : Regs => r.onlyIf_ne_zero e.stFall (troubleRestoreSlc e.stFall)
    (fun h => by simp only [troubleRestoreSlc, h, restore_zero])
  have c6 := fun r : Regs => r.onlyIf_ne_zero e.ntFall (troubleRestoreNac e.ntFall)
    (fun h => by simp only [troubleRestoreNac, h, restore_zero])
  have c7 := fun r : Regs => r.onlyIf_ne_zero e.gtFall (troubleRestoreGen e.gtFall)
    (fun h => by simp only [troubleRestoreGen, h, restore_zero])
  simp only [edgeOps, c1, c2, c3, c4, c5, c6, c7]
  simp only [troubleRestoreGen, troubleRestoreNac, troubleRestoreSlc, troubleEdgeGen, troubleEdgeNac, troubleEdgeSlc,
    alarmEdge_eq]

/-- The buttons of a pass: acknowledge, silence and reset act each on registers of their own; function does nothing
(R69). -/
theorem buttonOps_eq (b : BitVec 4) : buttonOps c b r =
    { r with
      cc := if b.getLsbD 1 then acknowledge r.cc else r.cc
      nacSilt := if b.getLsbD 2 then (silence c r).nacSilt else r.nacSilt
      ui := if b.getLsbD 2 then (silence c r).ui else r.ui
      tsRc := if b.getLsbD 0 then BitVec.ofNat 8 c.resetDelay else r.tsRc } := by
  unfold buttonOps
  cases b.getLsbD 0 <;> cases b.getLsbD 1 <;> cases b.getLsbD 2 <;> cases b.getLsbD 3 <;>
    simp [acknowledgeTop, silence_eq, resetArm, functionBtn]

/-- The UI fields bit by bit (R178). -/
theorem getLsbD_uiFields (r : Regs) (k : Nat) : (uiFields r).getLsbD k =
    if k = 6 then (paUnack r || gaUnack r) || gtUnack r
    else if k = 5 then gtUnack r && !(paUnack r || gaUnack r)
    else if k = 3 then anyTrouble r && !gtUnack r
    else if k = 2 then gtUnack r
    else if k = 1 then anyAlarm r && !(paUnack r || gaUnack r)
    else if k = 0 then paUnack r || gaUnack r
    else r.ui.getLsbD k := by
  simp only [uiFields, getLsbD_writeBit]
  simp

/-- The derived fields depend on no derived field (R178). -/
theorem uiFields_uiRecompute (r : Regs) : uiFields (uiRecompute r) = uiFields r := by
  apply BitVec.eq_of_getLsbD_eq
  intro k hk
  have h : (uiRecompute r).ui = uiFields r := rfl
  have a1 : paUnack (uiRecompute r) = paUnack r := rfl
  have a2 : gaUnack (uiRecompute r) = gaUnack r := rfl
  have a3 : gtUnack (uiRecompute r) = gtUnack r := rfl
  have a4 : anyTrouble (uiRecompute r) = anyTrouble r := rfl
  have a5 : anyAlarm (uiRecompute r) = anyAlarm r := rfl
  rw [getLsbD_uiFields, getLsbD_uiFields r, h, a1, a2, a3, a4, a5, getLsbD_uiFields]
  split_ifs <;> rfl

end Sys2Proof.Machine
end

