-- ==== Sys2Proof/Laws/Phases.lean ====
section
/-! SUPPORT. What each phase of the clock cycle leaves unchanged, register by register (R72), and what the cycle does in
each power state (R66, R253). -/

namespace Sys2Proof.Machine

variable (c : Config) (free : BitVec 16) (inp : Input) (e : Strobes) (r : Regs) (raw : BitVec 16) (gt : BitVec 1)

/-! The cleared start strobe. -/

@[simp] theorem clearStart_oAdcStart : r.clearStart.oAdcStart = false := rfl
@[simp] theorem clearStart_tsC : r.clearStart.tsC = r.tsC := rfl
@[simp] theorem clearStart_tsFlash : r.clearStart.tsFlash = r.tsFlash := rfl
@[simp] theorem clearStart_tsMt : r.clearStart.tsMt = r.tsMt := rfl
@[simp] theorem clearStart_tsBuzz : r.clearStart.tsBuzz = r.tsBuzz := rfl
@[simp] theorem clearStart_tsT3 : r.clearStart.tsT3 = r.tsT3 := rfl
@[simp] theorem clearStart_tsRc : r.clearStart.tsRc = r.tsRc := rfl
@[simp] theorem clearStart_scanReq : r.clearStart.scanReq = r.scanReq := rfl
@[simp] theorem clearStart_halted : r.clearStart.halted = r.halted := rfl
@[simp] theorem clearStart_scState : r.clearStart.scState = r.scState := rfl
@[simp] theorem clearStart_scPtr : r.clearStart.scPtr = r.scPtr := rfl
@[simp] theorem clearStart_scCh : r.clearStart.scCh = r.scCh := rfl
@[simp] theorem clearStart_scSettle : r.clearStart.scSettle = r.scSettle := rfl
@[simp] theorem clearStart_hSaPrev : r.clearStart.hSaPrev = r.hSaPrev := rfl
@[simp] theorem clearStart_hSaCur : r.clearStart.hSaCur = r.hSaCur := rfl
@[simp] theorem clearStart_hStPrev : r.clearStart.hStPrev = r.hStPrev := rfl
@[simp] theorem clearStart_hStCur : r.clearStart.hStCur = r.hStCur := rfl
@[simp] theorem clearStart_hNtPrev : r.clearStart.hNtPrev = r.hNtPrev := rfl
@[simp] theorem clearStart_hNtCur : r.clearStart.hNtCur = r.hNtCur := rfl
@[simp] theorem clearStart_hGtPrev : r.clearStart.hGtPrev = r.hGtPrev := rfl
@[simp] theorem clearStart_hGtCur : r.clearStart.hGtCur = r.hGtCur := rfl
@[simp] theorem clearStart_btnPrev : r.clearStart.btnPrev = r.btnPrev := rfl
@[simp] theorem clearStart_crPa : r.clearStart.crPa = r.crPa := rfl
@[simp] theorem clearStart_crGa : r.clearStart.crGa = r.crGa := rfl
@[simp] theorem clearStart_crSt : r.clearStart.crSt = r.crSt := rfl
@[simp] theorem clearStart_crNt : r.clearStart.crNt = r.crNt := rfl
@[simp] theorem clearStart_crGt : r.clearStart.crGt = r.crGt := rfl
@[simp] theorem clearStart_cc : r.clearStart.cc = r.cc := rfl
@[simp] theorem clearStart_ui : r.clearStart.ui = r.ui := rfl
@[simp] theorem clearStart_nacSilt : r.clearStart.nacSilt = r.nacSilt := rfl
@[simp] theorem clearStart_nacAct : r.clearStart.nacAct = r.nacAct := rfl
@[simp] theorem clearStart_oLedAlarm : r.clearStart.oLedAlarm = r.oLedAlarm := rfl
@[simp] theorem clearStart_oLedTrouble : r.clearStart.oLedTrouble = r.oLedTrouble := rfl
@[simp] theorem clearStart_oLedSilence : r.clearStart.oLedSilence = r.oLedSilence := rfl
@[simp] theorem clearStart_oLedPower : r.clearStart.oLedPower = r.oLedPower := rfl
@[simp] theorem clearStart_oBuzzer : r.clearStart.oBuzzer = r.oBuzzer := rfl
@[simp] theorem clearStart_oNac : r.clearStart.oNac = r.oNac := rfl
@[simp] theorem clearStart_oSysResetReq : r.clearStart.oSysResetReq = r.oSysResetReq := rfl

theorem tickExpires_clearStart : tickExpires r.clearStart = tickExpires r := rfl

/-! The operations of phase A and the registers they leave. -/

@[simp] theorem div2_tsC : (div2 r).tsC = r.tsC := by rw [div2_eq]
@[simp] theorem div2_tsMt : (div2 r).tsMt = r.tsMt := by rw [div2_eq]
@[simp] theorem div2_tsBuzz : (div2 r).tsBuzz = r.tsBuzz := by rw [div2_eq]
@[simp] theorem div2_tsT3 : (div2 r).tsT3 = r.tsT3 := by rw [div2_eq]
@[simp] theorem div2_scanReq : (div2 r).scanReq = r.scanReq := by rw [div2_eq]
@[simp] theorem div2_scState : (div2 r).scState = r.scState := by rw [div2_eq]
@[simp] theorem div2_scPtr : (div2 r).scPtr = r.scPtr := by rw [div2_eq]
@[simp] theorem div2_scCh : (div2 r).scCh = r.scCh := by rw [div2_eq]
@[simp] theorem div2_scSettle : (div2 r).scSettle = r.scSettle := by rw [div2_eq]
@[simp] theorem div2_hSaPrev : (div2 r).hSaPrev = r.hSaPrev := by rw [div2_eq]
@[simp] theorem div2_hSaCur : (div2 r).hSaCur = r.hSaCur := by rw [div2_eq]
@[simp] theorem div2_hStPrev : (div2 r).hStPrev = r.hStPrev := by rw [div2_eq]
@[simp] theorem div2_hStCur : (div2 r).hStCur = r.hStCur := by rw [div2_eq]
@[simp] theorem div2_hNtPrev : (div2 r).hNtPrev = r.hNtPrev := by rw [div2_eq]
@[simp] theorem div2_hNtCur : (div2 r).hNtCur = r.hNtCur := by rw [div2_eq]
@[simp] theorem div2_hGtPrev : (div2 r).hGtPrev = r.hGtPrev := by rw [div2_eq]
@[simp] theorem div2_hGtCur : (div2 r).hGtCur = r.hGtCur := by rw [div2_eq]
@[simp] theorem div2_btnPrev : (div2 r).btnPrev = r.btnPrev := by rw [div2_eq]
@[simp] theorem div2_crPa : (div2 r).crPa = r.crPa := by rw [div2_eq]
@[simp] theorem div2_crGa : (div2 r).crGa = r.crGa := by rw [div2_eq]
@[simp] theorem div2_crSt : (div2 r).crSt = r.crSt := by rw [div2_eq]
@[simp] theorem div2_crNt : (div2 r).crNt = r.crNt := by rw [div2_eq]
@[simp] theorem div2_crGt : (div2 r).crGt = r.crGt := by rw [div2_eq]
@[simp] theorem div2_cc : (div2 r).cc = r.cc := by rw [div2_eq]
@[simp] theorem div2_ui : (div2 r).ui = r.ui := by rw [div2_eq]
@[simp] theorem div2_nacSilt : (div2 r).nacSilt = r.nacSilt := by rw [div2_eq]
@[simp] theorem div2_nacAct : (div2 r).nacAct = r.nacAct := by rw [div2_eq]
@[simp] theorem div2_oLedAlarm : (div2 r).oLedAlarm = r.oLedAlarm := by rw [div2_eq]
@[simp] theorem div2_oLedTrouble : (div2 r).oLedTrouble = r.oLedTrouble := by rw [div2_eq]
@[simp] theorem div2_oLedSilence : (div2 r).oLedSilence = r.oLedSilence := by rw [div2_eq]
@[simp] theorem div2_oLedPower : (div2 r).oLedPower = r.oLedPower := by rw [div2_eq]
@[simp] theorem div2_oBuzzer : (div2 r).oBuzzer = r.oBuzzer := by rw [div2_eq]
@[simp] theorem div2_oNac : (div2 r).oNac = r.oNac := by rw [div2_eq]
@[simp] theorem div2_oAdcStart : (div2 r).oAdcStart = r.oAdcStart := by rw [div2_eq]

/-! Phase A. -/

@[simp] theorem tickOps_scState : (tickOps r).scState = r.scState := by
  simp only [tickOps, tickCount, div4, div8, apply_ite Regs.scState, Regs.apply_onlyIf, div2_scState, ite_self]
@[simp] theorem tickOps_scPtr : (tickOps r).scPtr = r.scPtr := by
  simp only [tickOps, tickCount, div4, div8, apply_ite Regs.scPtr, Regs.apply_onlyIf, div2_scPtr, ite_self]
@[simp] theorem tickOps_scCh : (tickOps r).scCh = r.scCh := by
  simp only [tickOps, tickCount, div4, div8, apply_ite Regs.scCh, Regs.apply_onlyIf, div2_scCh, ite_self]
@[simp] theorem tickOps_scSettle : (tickOps r).scSettle = r.scSettle := by
  simp only [tickOps, tickCount, div4, div8, apply_ite Regs.scSettle, Regs.apply_onlyIf, div2_scSettle, ite_self]
@[simp] theorem tickOps_hSaPrev : (tickOps r).hSaPrev = r.hSaPrev := by
  simp only [tickOps, tickCount, div4, div8, apply_ite Regs.hSaPrev, Regs.apply_onlyIf, div2_hSaPrev, ite_self]
@[simp] theorem tickOps_hSaCur : (tickOps r).hSaCur = r.hSaCur := by
  simp only [tickOps, tickCount, div4, div8, apply_ite Regs.hSaCur, Regs.apply_onlyIf, div2_hSaCur, ite_self]
@[simp] theorem tickOps_hStPrev : (tickOps r).hStPrev = r.hStPrev := by
  simp only [tickOps, tickCount, div4, div8, apply_ite Regs.hStPrev, Regs.apply_onlyIf, div2_hStPrev, ite_self]
@[simp] theorem tickOps_hStCur : (tickOps r).hStCur = r.hStCur := by
  simp only [tickOps, tickCount, div4, div8, apply_ite Regs.hStCur, Regs.apply_onlyIf, div2_hStCur, ite_self]
@[simp] theorem tickOps_hNtPrev : (tickOps r).hNtPrev = r.hNtPrev := by
  simp only [tickOps, tickCount, div4, div8, apply_ite Regs.hNtPrev, Regs.apply_onlyIf, div2_hNtPrev, ite_self]
@[simp] theorem tickOps_hNtCur : (tickOps r).hNtCur = r.hNtCur := by
  simp only [tickOps, tickCount, div4, div8, apply_ite Regs.hNtCur, Regs.apply_onlyIf, div2_hNtCur, ite_self]
@[simp] theorem tickOps_hGtPrev : (tickOps r).hGtPrev = r.hGtPrev := by
  simp only [tickOps, tickCount, div4, div8, apply_ite Regs.hGtPrev, Regs.apply_onlyIf, div2_hGtPrev, ite_self]
@[simp] theorem tickOps_hGtCur : (tickOps r).hGtCur = r.hGtCur := by
  simp only [tickOps, tickCount, div4, div8, apply_ite Regs.hGtCur, Regs.apply_onlyIf, div2_hGtCur, ite_self]
@[simp] theorem tickOps_btnPrev : (tickOps r).btnPrev = r.btnPrev := by
  simp only [tickOps, tickCount, div4, div8, apply_ite Regs.btnPrev, Regs.apply_onlyIf, div2_btnPrev, ite_self]
@[simp] theorem tickOps_crPa : (tickOps r).crPa = r.crPa := by
  simp only [tickOps, tickCount, div4, div8, apply_ite Regs.crPa, Regs.apply_onlyIf, div2_crPa, ite_self]
@[simp] theorem tickOps_crGa : (tickOps r).crGa = r.crGa := by
  simp only [tickOps, tickCount, div4, div8, apply_ite Regs.crGa, Regs.apply_onlyIf, div2_crGa, ite_self]
@[simp] theorem tickOps_crSt : (tickOps r).crSt = r.crSt := by
  simp only [tickOps, tickCount, div4, div8, apply_ite Regs.crSt, Regs.apply_onlyIf, div2_crSt, ite_self]
@[simp] theorem tickOps_crNt : (tickOps r).crNt = r.crNt := by
  simp only [tickOps, tickCount, div4, div8, apply_ite Regs.crNt, Regs.apply_onlyIf, div2_crNt, ite_self]
@[simp] theorem tickOps_crGt : (tickOps r).crGt = r.crGt := by
  simp only [tickOps, tickCount, div4, div8, apply_ite Regs.crGt, Regs.apply_onlyIf, div2_crGt, ite_self]
@[simp] theorem tickOps_cc : (tickOps r).cc = r.cc := by
  simp only [tickOps, tickCount, div4, div8, apply_ite Regs.cc, Regs.apply_onlyIf, div2_cc, ite_self]
@[simp] theorem tickOps_ui : (tickOps r).ui = r.ui := by
  simp only [tickOps, tickCount, div4, div8, apply_ite Regs.ui, Regs.apply_onlyIf, div2_ui, ite_self]
@[simp] theorem tickOps_nacSilt : (tickOps r).nacSilt = r.nacSilt := by
  simp only [tickOps, tickCount, div4, div8, apply_ite Regs.nacSilt, Regs.apply_onlyIf, div2_nacSilt, ite_self]
@[simp] theorem tickOps_nacAct : (tickOps r).nacAct = r.nacAct := by
  simp only [tickOps, tickCount, div4, div8, apply_ite Regs.nacAct, Regs.apply_onlyIf, div2_nacAct, ite_self]
@[simp] theorem tickOps_oLedAlarm : (tickOps r).oLedAlarm = r.oLedAlarm := by
  simp only [tickOps, tickCount, div4, div8, apply_ite Regs.oLedAlarm, Regs.apply_onlyIf, div2_oLedAlarm, ite_self]
@[simp] theorem tickOps_oLedTrouble : (tickOps r).oLedTrouble = r.oLedTrouble := by
  simp only [tickOps, tickCount, div4, div8, apply_ite Regs.oLedTrouble, Regs.apply_onlyIf, div2_oLedTrouble, ite_self]
@[simp] theorem tickOps_oLedSilence : (tickOps r).oLedSilence = r.oLedSilence := by
  simp only [tickOps, tickCount, div4, div8, apply_ite Regs.oLedSilence, Regs.apply_onlyIf, div2_oLedSilence, ite_self]
@[simp] theorem tickOps_oLedPower : (tickOps r).oLedPower = r.oLedPower := by
  simp only [tickOps, tickCount, div4, div8, apply_ite Regs.oLedPower, Regs.apply_onlyIf, div2_oLedPower, ite_self]
@[simp] theorem tickOps_oBuzzer : (tickOps r).oBuzzer = r.oBuzzer := by
  simp only [tickOps, tickCount, div4, div8, apply_ite Regs.oBuzzer, Regs.apply_onlyIf, div2_oBuzzer, ite_self]
@[simp] theorem tickOps_oNac : (tickOps r).oNac = r.oNac := by
  simp only [tickOps, tickCount, div4, div8, apply_ite Regs.oNac, Regs.apply_onlyIf, div2_oNac, ite_self]
@[simp] theorem tickOps_oAdcStart : (tickOps r).oAdcStart = r.oAdcStart := by
  simp only [tickOps, tickCount, div4, div8, apply_ite Regs.oAdcStart, Regs.apply_onlyIf, div2_oAdcStart, ite_self]
@[simp] theorem phaseA_scState : (phaseA inp.tick r).scState = r.scState := by
  simp only [phaseA, Regs.apply_onlyIf, tickOps_scState, ite_self]
@[simp] theorem phaseA_scPtr : (phaseA inp.tick r).scPtr = r.scPtr := by
  simp only [phaseA, Regs.apply_onlyIf, tickOps_scPtr, ite_self]
@[simp] theorem phaseA_scCh : (phaseA inp.tick r).scCh = r.scCh := by
  simp only [phaseA, Regs.apply_onlyIf, tickOps_scCh, ite_self]
@[simp] theorem phaseA_scSettle : (phaseA inp.tick r).scSettle = r.scSettle := by
  simp only [phaseA, Regs.apply_onlyIf, tickOps_scSettle, ite_self]
@[simp] theorem phaseA_hSaPrev : (phaseA inp.tick r).hSaPrev = r.hSaPrev := by
  simp only [phaseA, Regs.apply_onlyIf, tickOps_hSaPrev, ite_self]
@[simp] theorem phaseA_hSaCur : (phaseA inp.tick r).hSaCur = r.hSaCur := by
  simp only [phaseA, Regs.apply_onlyIf, tickOps_hSaCur, ite_self]
@[simp] theorem phaseA_hStPrev : (phaseA inp.tick r).hStPrev = r.hStPrev := by
  simp only [phaseA, Regs.apply_onlyIf, tickOps_hStPrev, ite_self]
@[simp] theorem phaseA_hStCur : (phaseA inp.tick r).hStCur = r.hStCur := by
  simp only [phaseA, Regs.apply_onlyIf, tickOps_hStCur, ite_self]
@[simp] theorem phaseA_hNtPrev : (phaseA inp.tick r).hNtPrev = r.hNtPrev := by
  simp only [phaseA, Regs.apply_onlyIf, tickOps_hNtPrev, ite_self]
@[simp] theorem phaseA_hNtCur : (phaseA inp.tick r).hNtCur = r.hNtCur := by
  simp only [phaseA, Regs.apply_onlyIf, tickOps_hNtCur, ite_self]
@[simp] theorem phaseA_hGtPrev : (phaseA inp.tick r).hGtPrev = r.hGtPrev := by
  simp only [phaseA, Regs.apply_onlyIf, tickOps_hGtPrev, ite_self]
@[simp] theorem phaseA_hGtCur : (phaseA inp.tick r).hGtCur = r.hGtCur := by
  simp only [phaseA, Regs.apply_onlyIf, tickOps_hGtCur, ite_self]
@[simp] theorem phaseA_btnPrev : (phaseA inp.tick r).btnPrev = r.btnPrev := by
  simp only [phaseA, Regs.apply_onlyIf, tickOps_btnPrev, ite_self]
@[simp] theorem phaseA_crPa : (phaseA inp.tick r).crPa = r.crPa := by
  simp only [phaseA, Regs.apply_onlyIf, tickOps_crPa, ite_self]
@[simp] theorem phaseA_crGa : (phaseA inp.tick r).crGa = r.crGa := by
  simp only [phaseA, Regs.apply_onlyIf, tickOps_crGa, ite_self]
@[simp] theorem phaseA_crSt : (phaseA inp.tick r).crSt = r.crSt := by
  simp only [phaseA, Regs.apply_onlyIf, tickOps_crSt, ite_self]
@[simp] theorem phaseA_crNt : (phaseA inp.tick r).crNt = r.crNt := by
  simp only [phaseA, Regs.apply_onlyIf, tickOps_crNt, ite_self]
@[simp] theorem phaseA_crGt : (phaseA inp.tick r).crGt = r.crGt := by
  simp only [phaseA, Regs.apply_onlyIf, tickOps_crGt, ite_self]
@[simp] theorem phaseA_cc : (phaseA inp.tick r).cc = r.cc := by
  simp only [phaseA, Regs.apply_onlyIf, tickOps_cc, ite_self]
@[simp] theorem phaseA_ui : (phaseA inp.tick r).ui = r.ui := by
  simp only [phaseA, Regs.apply_onlyIf, tickOps_ui, ite_self]
@[simp] theorem phaseA_nacSilt : (phaseA inp.tick r).nacSilt = r.nacSilt := by
  simp only [phaseA, Regs.apply_onlyIf, tickOps_nacSilt, ite_self]
@[simp] theorem phaseA_nacAct : (phaseA inp.tick r).nacAct = r.nacAct := by
  simp only [phaseA, Regs.apply_onlyIf, tickOps_nacAct, ite_self]
@[simp] theorem phaseA_oLedAlarm : (phaseA inp.tick r).oLedAlarm = r.oLedAlarm := by
  simp only [phaseA, Regs.apply_onlyIf, tickOps_oLedAlarm, ite_self]
@[simp] theorem phaseA_oLedTrouble : (phaseA inp.tick r).oLedTrouble = r.oLedTrouble := by
  simp only [phaseA, Regs.apply_onlyIf, tickOps_oLedTrouble, ite_self]
@[simp] theorem phaseA_oLedSilence : (phaseA inp.tick r).oLedSilence = r.oLedSilence := by
  simp only [phaseA, Regs.apply_onlyIf, tickOps_oLedSilence, ite_self]
@[simp] theorem phaseA_oLedPower : (phaseA inp.tick r).oLedPower = r.oLedPower := by
  simp only [phaseA, Regs.apply_onlyIf, tickOps_oLedPower, ite_self]
@[simp] theorem phaseA_oBuzzer : (phaseA inp.tick r).oBuzzer = r.oBuzzer := by
  simp only [phaseA, Regs.apply_onlyIf, tickOps_oBuzzer, ite_self]
@[simp] theorem phaseA_oNac : (phaseA inp.tick r).oNac = r.oNac := by
  simp only [phaseA, Regs.apply_onlyIf, tickOps_oNac, ite_self]
@[simp] theorem phaseA_oAdcStart : (phaseA inp.tick r).oAdcStart = r.oAdcStart := by
  simp only [phaseA, Regs.apply_onlyIf, tickOps_oAdcStart, ite_self]

/-- Every tick counts (R67, R101). -/
@[simp] theorem phaseA_tsC : (phaseA true r).tsC = r.tsC + 1 := by
  simp only [phaseA, tickOps, Regs.apply_onlyIf, apply_ite Regs.tsC, div4, div8, ite_self, if_true, tickCount, div2_tsC]

/-! Phase B. -/

@[simp] theorem phaseB_tsC : (phaseB c free inp r).tsC = r.tsC := by
  simp only [phaseB, sampleOrSettle, scanStart, Regs.apply_onlyIf, apply_ite Regs.tsC, sampleDone_eq, settleStep_eq, ite_self]
@[simp] theorem phaseB_tsFlash : (phaseB c free inp r).tsFlash = r.tsFlash := by
  simp only [phaseB, sampleOrSettle, scanStart, Regs.apply_onlyIf, apply_ite Regs.tsFlash, sampleDone_eq, settleStep_eq, ite_self]
@[simp] theorem phaseB_tsMt : (phaseB c free inp r).tsMt = r.tsMt := by
  simp only [phaseB, sampleOrSettle, scanStart, Regs.apply_onlyIf, apply_ite Regs.tsMt, sampleDone_eq, settleStep_eq, ite_self]
@[simp] theorem phaseB_tsBuzz : (phaseB c free inp r).tsBuzz = r.tsBuzz := by
  simp only [phaseB, sampleOrSettle, scanStart, Regs.apply_onlyIf, apply_ite Regs.tsBuzz, sampleDone_eq, settleStep_eq, ite_self]
@[simp] theorem phaseB_tsT3 : (phaseB c free inp r).tsT3 = r.tsT3 := by
  simp only [phaseB, sampleOrSettle, scanStart, Regs.apply_onlyIf, apply_ite Regs.tsT3, sampleDone_eq, settleStep_eq, ite_self]
@[simp] theorem phaseB_tsRc : (phaseB c free inp r).tsRc = r.tsRc := by
  simp only [phaseB, sampleOrSettle, scanStart, Regs.apply_onlyIf, apply_ite Regs.tsRc, sampleDone_eq, settleStep_eq, ite_self]
@[simp] theorem phaseB_halted : (phaseB c free inp r).halted = r.halted := by
  simp only [phaseB, sampleOrSettle, scanStart, Regs.apply_onlyIf, apply_ite Regs.halted, sampleDone_eq, settleStep_eq, ite_self]
@[simp] theorem phaseB_btnPrev : (phaseB c free inp r).btnPrev = r.btnPrev := by
  simp only [phaseB, sampleOrSettle, scanStart, Regs.apply_onlyIf, apply_ite Regs.btnPrev, sampleDone_eq, settleStep_eq, ite_self]
@[simp] theorem phaseB_crPa : (phaseB c free inp r).crPa = r.crPa := by
  simp only [phaseB, sampleOrSettle, scanStart, Regs.apply_onlyIf, apply_ite Regs.crPa, sampleDone_eq, settleStep_eq, ite_self]
@[simp] theorem phaseB_crGa : (phaseB c free inp r).crGa = r.crGa := by
  simp only [phaseB, sampleOrSettle, scanStart, Regs.apply_onlyIf, apply_ite Regs.crGa, sampleDone_eq, settleStep_eq, ite_self]
@[simp] theorem phaseB_crSt : (phaseB c free inp r).crSt = r.crSt := by
  simp only [phaseB, sampleOrSettle, scanStart, Regs.apply_onlyIf, apply_ite Regs.crSt, sampleDone_eq, settleStep_eq, ite_self]
@[simp] theorem phaseB_crNt : (phaseB c free inp r).crNt = r.crNt := by
  simp only [phaseB, sampleOrSettle, scanStart, Regs.apply_onlyIf, apply_ite Regs.crNt, sampleDone_eq, settleStep_eq, ite_self]
@[simp] theorem phaseB_crGt : (phaseB c free inp r).crGt = r.crGt := by
  simp only [phaseB, sampleOrSettle, scanStart, Regs.apply_onlyIf, apply_ite Regs.crGt, sampleDone_eq, settleStep_eq, ite_self]
@[simp] theorem phaseB_cc : (phaseB c free inp r).cc = r.cc := by
  simp only [phaseB, sampleOrSettle, scanStart, Regs.apply_onlyIf, apply_ite Regs.cc, sampleDone_eq, settleStep_eq, ite_self]
@[simp] theorem phaseB_ui : (phaseB c free inp r).ui = r.ui := by
  simp only [phaseB, sampleOrSettle, scanStart, Regs.apply_onlyIf, apply_ite Regs.ui, sampleDone_eq, settleStep_eq, ite_self]
@[simp] theorem phaseB_nacSilt : (phaseB c free inp r).nacSilt = r.nacSilt := by
  simp only [phaseB, sampleOrSettle, scanStart, Regs.apply_onlyIf, apply_ite Regs.nacSilt, sampleDone_eq, settleStep_eq, ite_self]
@[simp] theorem phaseB_nacAct : (phaseB c free inp r).nacAct = r.nacAct := by
  simp only [phaseB, sampleOrSettle, scanStart, Regs.apply_onlyIf, apply_ite Regs.nacAct, sampleDone_eq, settleStep_eq, ite_self]
@[simp] theorem phaseB_oLedAlarm : (phaseB c free inp r).oLedAlarm = r.oLedAlarm := by
  simp only [phaseB, sampleOrSettle, scanStart, Regs.apply_onlyIf, apply_ite Regs.oLedAlarm, sampleDone_eq, settleStep_eq, ite_self]
@[simp] theorem phaseB_oLedTrouble : (phaseB c free inp r).oLedTrouble = r.oLedTrouble := by
  simp only [phaseB, sampleOrSettle, scanStart, Regs.apply_onlyIf, apply_ite Regs.oLedTrouble, sampleDone_eq, settleStep_eq, ite_self]
@[simp] theorem phaseB_oLedSilence : (phaseB c free inp r).oLedSilence = r.oLedSilence := by
  simp only [phaseB, sampleOrSettle, scanStart, Regs.apply_onlyIf, apply_ite Regs.oLedSilence, sampleDone_eq, settleStep_eq, ite_self]
@[simp] theorem phaseB_oLedPower : (phaseB c free inp r).oLedPower = r.oLedPower := by
  simp only [phaseB, sampleOrSettle, scanStart, Regs.apply_onlyIf, apply_ite Regs.oLedPower, sampleDone_eq, settleStep_eq, ite_self]
@[simp] theorem phaseB_oBuzzer : (phaseB c free inp r).oBuzzer = r.oBuzzer := by
  simp only [phaseB, sampleOrSettle, scanStart, Regs.apply_onlyIf, apply_ite Regs.oBuzzer, sampleDone_eq, settleStep_eq, ite_self]
@[simp] theorem phaseB_oNac : (phaseB c free inp r).oNac = r.oNac := by
  simp only [phaseB, sampleOrSettle, scanStart, Regs.apply_onlyIf, apply_ite Regs.oNac, sampleDone_eq, settleStep_eq, ite_self]
@[simp] theorem phaseB_oSysResetReq : (phaseB c free inp r).oSysResetReq = r.oSysResetReq := by
  simp only [phaseB, sampleOrSettle, scanStart, Regs.apply_onlyIf, apply_ite Regs.oSysResetReq, sampleDone_eq, settleStep_eq, ite_self]

/-! Phase C. -/

@[simp] theorem mainPass_tsC : (mainPass c inp e r).tsC = r.tsC := by
  simp only [mainPass, recompute, outputDrive, nacCode, nacActivate, uiRecompute, buttonOps_eq, edgeOps_eq, btnEdge]
@[simp] theorem mainPass_tsFlash : (mainPass c inp e r).tsFlash = r.tsFlash := by
  simp only [mainPass, recompute, outputDrive, nacCode, nacActivate, uiRecompute, buttonOps_eq, edgeOps_eq, btnEdge]
@[simp] theorem mainPass_tsMt : (mainPass c inp e r).tsMt = r.tsMt := by
  simp only [mainPass, recompute, outputDrive, nacCode, nacActivate, uiRecompute, buttonOps_eq, edgeOps_eq, btnEdge]
@[simp] theorem mainPass_tsBuzz : (mainPass c inp e r).tsBuzz = r.tsBuzz := by
  simp only [mainPass, recompute, outputDrive, nacCode, nacActivate, uiRecompute, buttonOps_eq, edgeOps_eq, btnEdge]
@[simp] theorem mainPass_tsT3 : (mainPass c inp e r).tsT3 = r.tsT3 := by
  simp only [mainPass, recompute, outputDrive, nacCode, nacActivate, uiRecompute, buttonOps_eq, edgeOps_eq, btnEdge]
@[simp] theorem mainPass_scanReq : (mainPass c inp e r).scanReq = r.scanReq := by
  simp only [mainPass, recompute, outputDrive, nacCode, nacActivate, uiRecompute, buttonOps_eq, edgeOps_eq, btnEdge]
@[simp] theorem mainPass_halted : (mainPass c inp e r).halted = r.halted := by
  simp only [mainPass, recompute, outputDrive, nacCode, nacActivate, uiRecompute, buttonOps_eq, edgeOps_eq, btnEdge]
@[simp] theorem mainPass_scState : (mainPass c inp e r).scState = r.scState := by
  simp only [mainPass, recompute, outputDrive, nacCode, nacActivate, uiRecompute, buttonOps_eq, edgeOps_eq, btnEdge]
@[simp] theorem mainPass_scPtr : (mainPass c inp e r).scPtr = r.scPtr := by
  simp only [mainPass, recompute, outputDrive, nacCode, nacActivate, uiRecompute, buttonOps_eq, edgeOps_eq, btnEdge]
@[simp] theorem mainPass_scCh : (mainPass c inp e r).scCh = r.scCh := by
  simp only [mainPass, recompute, outputDrive, nacCode, nacActivate, uiRecompute, buttonOps_eq, edgeOps_eq, btnEdge]
@[simp] theorem mainPass_scSettle : (mainPass c inp e r).scSettle = r.scSettle := by
  simp only [mainPass, recompute, outputDrive, nacCode, nacActivate, uiRecompute, buttonOps_eq, edgeOps_eq, btnEdge]
@[simp] theorem mainPass_hSaPrev : (mainPass c inp e r).hSaPrev = r.hSaPrev := by
  simp only [mainPass, recompute, outputDrive, nacCode, nacActivate, uiRecompute, buttonOps_eq, edgeOps_eq, btnEdge]
@[simp] theorem mainPass_hSaCur : (mainPass c inp e r).hSaCur = r.hSaCur := by
  simp only [mainPass, recompute, outputDrive, nacCode, nacActivate, uiRecompute, buttonOps_eq, edgeOps_eq, btnEdge]
@[simp] theorem mainPass_hStPrev : (mainPass c inp e r).hStPrev = r.hStPrev := by
  simp only [mainPass, recompute, outputDrive, nacCode, nacActivate, uiRecompute, buttonOps_eq, edgeOps_eq, btnEdge]
@[simp] theorem mainPass_hStCur : (mainPass c inp e r).hStCur = r.hStCur := by
  simp only [mainPass, recompute, outputDrive, nacCode, nacActivate, uiRecompute, buttonOps_eq, edgeOps_eq, btnEdge]
@[simp] theorem mainPass_hNtPrev : (mainPass c inp e r).hNtPrev = r.hNtPrev := by
  simp only [mainPass, recompute, outputDrive, nacCode, nacActivate, uiRecompute, buttonOps_eq, edgeOps_eq, btnEdge]
@[simp] theorem mainPass_hNtCur : (mainPass c inp e r).hNtCur = r.hNtCur := by
  simp only [mainPass, recompute, outputDrive, nacCode, nacActivate, uiRecompute, buttonOps_eq, edgeOps_eq, btnEdge]
@[simp] theorem mainPass_hGtPrev : (mainPass c inp e r).hGtPrev = r.hGtPrev := by
  simp only [mainPass, recompute, outputDrive, nacCode, nacActivate, uiRecompute, buttonOps_eq, edgeOps_eq, btnEdge]
@[simp] theorem mainPass_hGtCur : (mainPass c inp e r).hGtCur = r.hGtCur := by
  simp only [mainPass, recompute, outputDrive, nacCode, nacActivate, uiRecompute, buttonOps_eq, edgeOps_eq, btnEdge]
@[simp] theorem mainPass_oSysResetReq : (mainPass c inp e r).oSysResetReq = r.oSysResetReq := by
  simp only [mainPass, recompute, outputDrive, nacCode, nacActivate, uiRecompute, buttonOps_eq, edgeOps_eq, btnEdge]
@[simp] theorem mainPass_oAdcStart : (mainPass c inp e r).oAdcStart = r.oAdcStart := by
  simp only [mainPass, recompute, outputDrive, nacCode, nacActivate, uiRecompute, buttonOps_eq, edgeOps_eq, btnEdge]

/-! The registers that phase C writes. -/

theorem mainPass_btnPrev : (mainPass c inp e r).btnPrev = Input.btn inp := by
  simp only [mainPass, recompute, outputDrive, nacCode, nacActivate, uiRecompute, buttonOps_eq, edgeOps_eq, btnEdge]

theorem mainPass_crPa : (mainPass c inp e r).crPa = (alarmEdge c e.saRise r).crPa := by
  simp only [mainPass, recompute, outputDrive, nacCode, nacActivate, uiRecompute, buttonOps_eq, edgeOps_eq, btnEdge,
    alarmEdge_eq]

theorem mainPass_crGa : (mainPass c inp e r).crGa = (alarmEdge c e.saRise r).crGa := by
  simp only [mainPass, recompute, outputDrive, nacCode, nacActivate, uiRecompute, buttonOps_eq, edgeOps_eq, btnEdge,
    alarmEdge_eq]

theorem mainPass_crSt : (mainPass c inp e r).crSt = restore (latch r.crSt e.stRise) e.stFall := by
  simp only [mainPass, recompute, outputDrive, nacCode, nacActivate, uiRecompute, buttonOps_eq, edgeOps_eq, btnEdge]

theorem mainPass_crNt : (mainPass c inp e r).crNt = restore (latch r.crNt e.ntRise) e.ntFall := by
  simp only [mainPass, recompute, outputDrive, nacCode, nacActivate, uiRecompute, buttonOps_eq, edgeOps_eq, btnEdge]

theorem mainPass_crGt : (mainPass c inp e r).crGt = restore (latch r.crGt e.gtRise) e.gtFall := by
  simp only [mainPass, recompute, outputDrive, nacCode, nacActivate, uiRecompute, buttonOps_eq, edgeOps_eq, btnEdge]

theorem mainPass_tsRc : (mainPass c inp e r).tsRc =
    if (pressEdges (Input.btn inp) r).getLsbD 0 = true then BitVec.ofNat 8 c.resetDelay else r.tsRc := by
  simp only [mainPass, recompute, outputDrive, nacCode, nacActivate, uiRecompute, buttonOps_eq, edgeOps_eq, btnEdge]

/-! The clock cycle in each power state (R253). -/

theorem cycle_inReset (h : inp.rst = true) : r.cycle c free inp = Regs.reset := if_pos h

theorem cycle_halted (h : inp.rst = false) (hh : r.halted = true) : r.cycle c free inp = r := by
  simp only [Regs.cycle, h, hh, Bool.false_eq_true, if_false, if_true]

/-- Phase A halts a running block exactly when its tick expires the countdown (R102, R103). -/
theorem phaseA_halted (tick : Bool) (h : r.halted = false) : (phaseA tick r).halted = (tick && tickExpires r) := by
  cases tick
  · simpa using h
  · rw [phaseA_tick_eq r h]
    simp

/-- A cycle of a running block whose phase A halts it ends with phase A (R66). -/
theorem cycle_expires (h : inp.rst = false) (hh : r.halted = false) (ht : inp.tick = true) (hx : tickExpires r = true) :
    r.cycle c free inp = phaseA true r.clearStart := by
  have ha : (phaseA true r.clearStart).halted = true := by
    rw [phaseA_halted r.clearStart true hh, tickExpires_clearStart, hx, Bool.and_true]
  simp only [Regs.cycle, Regs.runningCycle, h, hh, ht, ha, Bool.false_eq_true, if_false, if_true]

/-- A cycle of a running block that goes on is its three phases (R66). -/
theorem cycle_runs (h : inp.rst = false) (hh : r.halted = false) (hx : (inp.tick && tickExpires r) = false) :
    r.cycle c free inp = mainPass c inp (phaseBStrobes c inp (phaseA inp.tick r.clearStart))
      (phaseB c free inp (phaseA inp.tick r.clearStart)) := by
  have ha : (phaseA inp.tick r.clearStart).halted = false := by
    rw [phaseA_halted r.clearStart inp.tick hh, tickExpires_clearStart, hx]
  simp only [Regs.cycle, Regs.runningCycle, h, hh, ha, Bool.false_eq_true, if_false]

/-- HALTED after a cycle of a running block (R103, R254). -/
theorem cycle_halted_iff (h : inp.rst = false) (hh : r.halted = false) :
    (r.cycle c free inp).halted = (inp.tick && tickExpires r) := by
  by_cases hx : (inp.tick && tickExpires r) = true
  · obtain ⟨ht, he⟩ := (Bool.and_eq_true _ _).mp hx
    rw [cycle_expires c free inp r h hh ht he, phaseA_halted r.clearStart true hh, tickExpires_clearStart, ht]
  · rw [Bool.not_eq_true] at hx
    rw [cycle_runs c free inp r h hh hx, mainPass_halted, phaseB_halted, phaseA_halted r.clearStart inp.tick hh,
      tickExpires_clearStart]

end Sys2Proof.Machine
end

