-- ==== Sys2Proof/Machine/Assembly.lean ====
section
/-! DEFINITION. The source syntax of the test programs: operation lines (R88) and clock-cycle lines (R89). Text is a list
of characters. Log entry 18 says what the rules leave open here. -/

namespace Sys2Proof.Machine

/-- A piece of source text. -/
abbrev Text := List Char

/-- "Text after `--` is a comment" (R88). -/
def stripComment : Text → Text
  | [] => []
  | c :: cs => if c = '-' ∧ cs.head? = some '-' then [] else c :: stripComment cs

/-- Text cut at a separator. -/
def cutAt (sep : Char) : Text → List Text
  | [] => [[]]
  | c :: cs =>
    if c = sep then [] :: cutAt sep cs
    else
      match cutAt sep cs with
      | [] => [[c]]
      | w :: ws => (c :: w) :: ws

/-- The words of a line, without its comment. -/
def wordsOf (line : Text) : List Text := (cutAt ' ' (stripComment line)).filter fun w => !w.isEmpty

/-- A digit of a number in the given base, lower or upper case. -/
def digitOf (base : Nat) (c : Char) : Option Nat :=
  let n := c.toNat
  let d := if 48 ≤ n ∧ n ≤ 57 then n - 48 else if 97 ≤ n ∧ n ≤ 102 then n - 87 else if 65 ≤ n ∧ n ≤ 70 then n - 55 else base
  if d < base then some d else none

/-- The digits of a number, most significant first. -/
def digitsFrom (base : Nat) : Nat → Text → Option Nat
  | n, [] => some n
  | n, c :: cs =>
    match digitOf base c with
    | some d => digitsFrom base (n * base + d) cs
    | none => none

/-- At least one digit. -/
def numberOf (base : Nat) (t : Text) : Option Nat := if t.isEmpty then none else digitsFrom base 0 t

/-- A value "in decimal, `0x` hexadecimal or `0b` binary" (R88). -/
def valueOf : Text → Option Nat
  | '0' :: 'x' :: t => numberOf 16 t
  | '0' :: 'b' :: t => numberOf 2 t
  | t => numberOf 10 t

/-- What follows a prefix of a word. -/
def afterText : Text → Text → Option Text
  | [], t => some t
  | _ :: _, [] => none
  | p :: ps, c :: cs => if p = c then afterText ps cs else none

/-- The value of an operand `name=value` (R88). -/
def operandValue (name : String) (w : Text) : Option Nat :=
  match afterText (name.toList ++ ['=']) w with
  | some v => valueOf v
  | none => none

/-- A value in `n` bytes, low byte first (R83). -/
def bytesOf (n v : Nat) : List Byte := (List.range n).map (byteOf v)

/-- The operand bytes of an operation line: its operands in order, each value within its whole bytes (R83, R88). -/
def operandsOf : List (String × Nat) → List Text → Option (List Byte)
  | [], [] => some []
  | (name, n) :: forms, w :: ws =>
    match operandValue name w, operandsOf forms ws with
    | some v, some bs => if v < 2 ^ (8 * n) then some (bytesOf n v ++ bs) else none
    | _, _ => none
  | _, _ => none

/-- The operation words of R82 in their order. -/
def assignedWords : List Byte :=
  [0x00, 0x04, 0x08, 0x0C, 0x10] ++ [0x40, 0x44, 0x48, 0x4C, 0x50] ++
  [0x80, 0x84, 0x85, 0x86, 0x88, 0x89, 0x8A, 0x8C, 0x90, 0x94, 0x98, 0x9C, 0xA0] ++ [0xC0, 0xC4]

/-- A mnemonic's operation word (R82). -/
def wordOfMnemonic (t : Text) : Option Byte :=
  assignedWords.find? fun w =>
    match Opcode.ofWord w with
    | some o => o.mnemonic.toList == t
    | none => false

/-- The bytes of one operation line; a line with no words has none (R88). -/
def operationLine (line : Text) : Option (List Byte) :=
  match wordsOf line with
  | [] => some []
  | m :: ws =>
    match wordOfMnemonic m with
    | none => none
    | some w =>
      match Opcode.ofWord w with
      | none => none
      | some o =>
        match operandsOf o.operandForms ws with
        | some bs => some (w :: bs)
        | none => none

/-- The stimulus bit of an input named on a cycle line (R84, R89). -/
def inputBit (w : Text) : Option Nat :=
  (["rst", "tick", "valid", "reset", "ack", "sil", "fn", "gt"].map String.toList).findIdx? (· == w)

/-- The stimulus word of the inputs named on a cycle line, `data=` only where `valid` is named (R89). DESIGN CHOICE (log
entry 18): R89 is silent on a repeat; an input named twice is that input, and the values of two `data=` words are ORed. -/
def inputsOf (valid : Bool) : List Text → StimulusWord → Option StimulusWord
  | [], w => some w
  | t :: ts, w =>
    match inputBit t with
    | some k => inputsOf (valid || k == 2) ts (w ||| BitVec.twoPow 32 k)
    | none =>
      match operandValue "data" t with
      | some v => if valid ∧ v < 2 ^ 16 then inputsOf valid ts (w ||| BitVec.ofNat 32 (v * 2 ^ 8)) else none
      | none => none

/-- How many cycles a cycle line's first word stands for: `cyc` or `cyc*n` (R89). DESIGN CHOICE (log entry 18): R89 does not
give the base of `n`; it is read in decimal, and `cyc*0` stands for no cycle. -/
def cycleCount (w : Text) : Option Nat :=
  if w = "cyc".toList then some 1
  else
    match afterText "cyc*".toList w with
    | some n => numberOf 10 n
    | none => none

/-- The stimuli of one cycle line; a line with no words has none (R89). DESIGN CHOICE (log entry 18): R88 gives `--` comments
to operation lines and R89 is silent; a cycle line's comment is left out too. -/
def cycleLine (line : Text) : Option (List StimulusWord) :=
  match wordsOf line with
  | [] => some []
  | h :: ts =>
    match cycleCount h, inputsOf false ts 0 with
    | some n, some w => some (List.replicate n w)
    | _, _ => none

/-- The lines of a program, one after the other. -/
def linesOf {α : Type} (line : Text → Option (List α)) : List Text → Option (List α)
  | [] => some []
  | l :: ls =>
    match line l, linesOf line ls with
    | some a, some b => some (a ++ b)
    | _, _ => none

/-- The run of an operation-level program's source (R88). -/
def operationProgram (lines : List String) : Option Driver :=
  (linesOf operationLine (lines.map String.toList)).map .operations

/-- The run of a cycle-level program's source under a static configuration (R89). -/
def cycleProgram (lines : List String) : Option Driver :=
  (linesOf cycleLine (lines.map String.toList)).map fun ws => .cycles (ws.map fun w => ⟨none, w⟩)

end Sys2Proof.Machine
end

