-- ==== Sys2Proof/Tests/Slice0.lean ====
section
/-! SUPPORT. Tests. Expected values come from the spec: the rules' own examples and tables and the vectors of
95_test_vectors.md, named in each docstring. The last part gives, for each statement with hypotheses, a state and
operands that meet them. -/

namespace Sys2Proof.Tests

open Sys2Proof Sys2Proof.Machine

/-- Configuration EX2 of 95_test_vectors.md. -/
def ex2 : Config :=
  { Config.ex1 with
    nSlc := 2
    nNac := 3
    resetDelay := 4
    nacSilenceable := 0b011
    nacPrealarm := 0b101
    nacPattern := [0, 0, 0] }

/-- A state with these registers. -/
def at' (c : Config) (r : Regs) : State := { cfg := c, regs := r, driver := .cycles [], draws := 0 }

/-- Something read from the registers after one instruction. -/
def after {α : Type} (i : Instr) (c : Config) (r : Regs) (f : Regs → α) : Option α :=
  match exec i (at' c r) with
  | .next t => some (f t.regs)
  | _ => none

/-- Why a step was refused. -/
def refusalOf? (x : Result) : Option Refusal :=
  match x with
  | .refused w => some w
  | _ => none

/-- A cycle's inputs with nothing present. -/
def idleInput : Input where
  rst := false
  tick := false
  adcValid := false
  btnReset := false
  btnAck := false
  btnSilence := false
  btnFunction := false
  gtIn := 0
  adcData := 0

/-- A cycle with `tick` = 1. -/
def tickInput : Input := { idleInput with tick := true }

/-- Something read from the registers after one clock cycle. -/
def afterCycle {α : Type} (inp : Input) (c : Config) (r : Regs) (f : Regs → α) : α := f ((at' c r).cycle inp).regs

/-! Well-formedness: one ill-formed term for each check. -/

theorem test_illformed_masks :
    (Instr.alarmEdge 0b100).wellFormed ex2 = false ∧ (Instr.troubleEdgeSlc 0b100).wellFormed ex2 = false ∧
    (Instr.troubleEdgeNac 0b1000).wellFormed ex2 = false ∧ (Instr.troubleRestoreSlc 0b100).wellFormed ex2 = false ∧
    (Instr.troubleRestoreNac 0b1000).wellFormed ex2 = false := by decide

theorem test_illformed_samples :
    (Instr.sampleDone 0x400 0).wellFormed ex2 = false ∧ ¬ Input.WellFormed ex2 { idleInput with adcData := 0x400 } := by
  decide

/-- The widest legal operands pass. -/
theorem test_wellformed_widest :
    (Instr.alarmEdge 0b11).wellFormed ex2 = true ∧ (Instr.troubleEdgeNac 0b111).wellFormed ex2 = true ∧
    (Instr.sampleDone 0x3FF 1).wellFormed ex2 = true := by decide

/-- The legality check, as a test. -/
def legal (c : Config) : Bool := decide c.Legal

/-- Out-of-range sizes of R6 to R11. -/
theorem test_illegal_sizes :
    legal { ex2 with nSlc := 0 } = false ∧ legal { ex2 with nSlc := 9 } = false ∧ legal { ex2 with nNac := 0 } = false ∧
    legal { ex2 with nNac := 9 } = false ∧ legal { ex2 with adcW := 0 } = false ∧ legal { ex2 with adcW := 17 } = false ∧
    legal { ex2 with settleCycles := 0 } = false ∧ legal { ex2 with settleCycles := 65536 } = false ∧
    legal { ex2 with resetDelay := 0 } = false ∧ legal { ex2 with resetDelay := 256 } = false := by decide

/-- Classifiers that are not functions of a 10-bit sample in canonical form: above the width, empty range, touching
ranges; and masks and pattern lists of the wrong width (R12, R14). -/
theorem test_illegal_vectors :
    legal { ex2 with clsSlcAlarm := ⟨[(0, 0x400)]⟩ } = false ∧ legal { ex2 with clsSlcTrouble := ⟨[(2, 1)]⟩ } = false ∧
    legal { ex2 with clsNacTrouble := ⟨[(0, 1), (2, 3)]⟩ } = false ∧ legal { ex2 with nacSilenceable := 0b1000 } = false ∧
    legal { ex2 with nacPrealarm := 0b1000 } = false ∧ legal { ex2 with nacDisable := 0b1000 } = false ∧
    legal { ex2 with nacPattern := [0, 0] } = false := by decide

theorem test_ex2_legal : ex2.Legal := by decide

/-! Decoding: every operation word of R82, written bit by bit as {unit, op, arg} (R81). -/

theorem test_decode_tick_scheduler :
    decode [0b00000000] = .ok (.tickCount, []) ∧ decode [0b00000100] = .ok (.div2, []) ∧
    decode [0b00001000] = .ok (.rcExpire, []) ∧ decode [0b00001100] = .ok (.div4, []) ∧
    decode [0b00010000] = .ok (.div8, []) := by decide

theorem test_decode_edge_detector :
    decode [0b01000000] = .ok (.scanStart, []) ∧ decode [0b01000100] = .ok (.settleStep, []) ∧
    decode [0b01001000, 0x00, 0x03, 0x01] = .ok (.sampleDone 0x300 1, []) ∧
    decode [0b01001100, 0x01] = .ok (.cycleEnd 1, []) ∧ decode [0b01010000, 0b0010] = .ok (.btnEdge 0b0010, []) := by
  decide

theorem test_decode_condition_state :
    decode [0b10000000, 0b01] = .ok (.alarmEdge 0b01, []) ∧ decode [0b10000100, 0b11] = .ok (.troubleEdgeSlc 0b11, []) ∧
    decode [0b10000101, 0b100] = .ok (.troubleEdgeNac 0b100, []) ∧
    decode [0b10000110, 1] = .ok (.troubleEdgeGen 1, []) := by decide

theorem test_decode_trouble_restore :
    decode [0b10001000, 0b10] = .ok (.troubleRestoreSlc 0b10, []) ∧
    decode [0b10001001, 0b011] = .ok (.troubleRestoreNac 0b011, []) ∧
    decode [0b10001010, 1] = .ok (.troubleRestoreGen 1, []) := by decide

theorem test_decode_passes :
    decode [0b10001100] = .ok (.ack, []) ∧ decode [0b10010000] = .ok (.silence, []) ∧ decode [0b10010100] = .ok (.resetArm, []) ∧
    decode [0b10011000] = .ok (.functionBtn, []) ∧ decode [0b10011100] = .ok (.uiRecompute, []) ∧
    decode [0b10100000] = .ok (.nacActivate, []) := by decide

theorem test_decode_output_coder :
    decode [0b11000000] = .ok (.nacCode, []) ∧ decode [0b11000100] = .ok (.outputDrive, []) := by decide

/-- EN3, EN4 and the other reserved words R85 (a) names. -/
theorem test_decode_reserved :
    decode [0x87] = .error (.reservedWord 0x87) ∧ decode [0x01] = .error (.reservedWord 0x01) ∧
    decode [0x8B] = .error (.reservedWord 0x8B) ∧ decode [0xA4] = .error (.reservedWord 0xA4) ∧
    decode [0xFF] = .error (.reservedWord 0xFF) := by decide

/-- EN6, and an operand of fixed width. -/
theorem test_decode_operand_bit :
    decodeFor { ex2 with nSlc := 2 } [0x84, 0b100] = .error .operandBit ∧ decode [0x4C, 0b10] = .error .operandBit := by
  decide

/-- The opcode table's numbering of R83's operand bytes: SAMPLE_DONE raw=0x300 gt=1 is 48 00 03 01 (EN7). -/
theorem test_decode_table_word :
    decodeTableWord 32 0x01030048 = some (.sampleDone 0x300 1) ∧ decodeTableWord 8 0x48 = some (.sampleDone 0 0) ∧
    decodeTableWord 16 0x0185 = some (.troubleEdgeNac 1) ∧ decodeTableWord 8 0x87 = none := by decide

/-- EN8 to EN10. -/
theorem test_stimulus_words :
    (decodeStimulus ex2 0x00030016).map encodeStimulus = some 0x00030016 ∧
    (decodeStimulus ex2 0x00030016).map (fun i => (i.tick, i.adcValid, i.btnAck, i.adcData)) =
      some (true, true, true, 0x300) ∧
    decodeStimulus ex2 0x01000000 = none ∧ decodeStimulus ex2 0x00040004 = none := by decide

/-- EN11. -/
theorem test_ui_word :
    uiWord { Regs.reset with oLedAlarm := true, oLedPower := true, oSysResetReq := true } = 0x29 := by decide

/-- EN5, EN7: operation lines, their operands and a comment. -/
theorem test_operation_lines :
    operationProgram ["ALARM_EDGE m=0b01", "SAMPLE_DONE raw=0x300 gt=1  -- EN7", ""] =
      some (.operations [0x80, 0x01, 0x48, 0x00, 0x03, 0x01]) := by decide

/-- EN8, and two cycles on one line. -/
theorem test_cycle_lines :
    cycleProgram ["cyc tick valid data=0x300 ack", "cyc*2 rst"] =
      some (.cycles [⟨none, 0x00030016⟩, ⟨none, 1⟩, ⟨none, 1⟩]) := by decide

/-! Tick scheduler. -/

/-- T1 and the wrap of T5. -/
theorem test_tickCount :
    after .tickCount ex2 Regs.reset (·.tsC) = some 1 ∧
    after .tickCount ex2 { Regs.reset with tsC := 0xFF } (·.tsC) = some 0 := by decide

/-- T6, T7, T8: the countdown at 0, 2 and 1. -/
theorem test_div2 :
    after .div2 ex2 Regs.reset (fun r => (r.tsFlash, r.tsRc)) = some (true, 0) ∧
    after .div2 ex2 { Regs.reset with tsRc := 2 } (fun r => (r.tsRc, r.halted)) = some (1, false) ∧
    after .div2 ex2 { Regs.reset with tsRc := 1 } (fun r => (r.tsRc, r.halted, r.oSysResetReq)) =
      some (0, true, true) := by decide

/-- R103. -/
theorem test_rcExpire :
    after .rcExpire ex2 Regs.reset (fun r => (r.halted, r.oSysResetReq)) = some (true, true) := by decide

/-- R104. -/
theorem test_div4 : after .div4 ex2 Regs.reset (·.tsMt) = some true := by decide

/-- R105, and T5's wrap of TS_T3. -/
theorem test_div8 :
    after .div8 ex2 Regs.reset (fun r => (r.tsBuzz, r.tsT3, r.scanReq)) = some (true, 1, true) ∧
    after .div8 ex2 { Regs.reset with tsT3 := 7 } (·.tsT3) = some 0 := by decide

/-- T4: the tick to 8, with the request taken in phase B of the same cycle. -/
theorem test_cycle_T4 :
    afterCycle tickInput ex2 { Regs.reset with tsC := 7, tsFlash := true, tsMt := true }
      (fun r => (r.tsC, r.tsFlash, r.tsMt, r.tsBuzz, r.tsT3)) = (8, false, false, true, 1) ∧
    afterCycle tickInput ex2 { Regs.reset with tsC := 7, tsFlash := true, tsMt := true }
      (fun r => (r.scanReq, r.scState)) = (false, .settling) := by decide

/-- T9: the expiring tick skips DIV4 and DIV8. -/
theorem test_cycle_T9 :
    afterCycle tickInput ex2
      { Regs.reset with tsC := 0x3F, tsFlash := true, tsMt := true, tsBuzz := true, tsT3 := 7, tsRc := 1 }
      (fun r => (r.tsC, r.halted, r.tsMt, r.tsBuzz, r.tsT3, r.scanReq)) = (0x40, true, true, true, 7, false) := by decide

/-- T10: the load of phase C wins over the decrement of phase A. -/
theorem test_cycle_T10 :
    afterCycle { tickInput with btnReset := true } { ex2 with resetDelay := 5 }
      { Regs.reset with tsC := 1, tsRc := 2 } (fun r => (r.tsC, r.tsFlash, r.tsRc)) = (2, true, 5) := by decide

/-- T12: nothing changes while HALTED = 1. -/
theorem test_cycle_T12 :
    afterCycle tickInput ex2 { Regs.reset with halted := true, tsC := 4 } id =
      { Regs.reset with halted := true, tsC := 4 } := by decide

/-! Scanner and edge detector. -/

/-- DB1. -/
theorem test_scanStart :
    after .scanStart Config.ex1 { Regs.reset with scanReq := true, scPtr := 1 }
      (fun r => (r.scanReq, r.scCh, r.scSettle, r.scState)) = some (false, 1, 1, .settling) := by decide

/-- DB2, DB3. -/
theorem test_settleStep :
    after .settleStep ex2 { Regs.reset with scState := .settling, scSettle := 3 }
      (fun r => (r.scSettle, r.scState, r.oAdcStart)) = some (2, .settling, false) ∧
    after .settleStep ex2 { Regs.reset with scState := .settling, scSettle := 1 }
      (fun r => (r.scSettle, r.scState, r.oAdcStart)) = some (0, .converting, true) := by decide

/-- DB4, DB5: either side of the threshold of EX1. -/
theorem test_sampleDone_slc :
    after (.sampleDone 0x300 0) Config.ex1 { Regs.reset with scState := .converting }
      (fun r => (r.hSaCur, r.hStCur, r.scState, r.scPtr)) = some (1, 0, .idle, 1) ∧
    after (.sampleDone 0x1FF 0) Config.ex1 { Regs.reset with scState := .converting } (·.hSaCur) = some 0 := by decide

/-- DB6: the last channel ends the scan cycle. -/
theorem test_sampleDone_last :
    after (.sampleDone 0 0) Config.ex1 { Regs.reset with scState := .converting, scCh := 1, hSaCur := 1 }
      (fun r => (r.hNtCur, r.hSaPrev, r.hSaCur, r.scPtr)) = some (0, 1, 1, 0) ∧
    (sampleStrobes Config.ex1 0 0 { Regs.reset with scState := .converting, scCh := 1, hSaCur := 1 }).saRise = 1 := by
  decide

/-- DB7: a sample completes and the next channel is selected in one cycle; the alarm reaches CR_GA in its phase C. -/
theorem test_cycle_DB7 :
    afterCycle { idleInput with adcValid := true } { Config.ex1 with settleCycles := 3, prealarmEn := false }
      { Regs.reset with scState := .converting, scCh := 1, hSaCur := 1, scanReq := true }
      (fun r => (r.scState, r.scCh, r.scSettle, r.crGa, r.cc)) = (.settling, 0, 3, 1, 0b010) := by decide

/-- DB8, DB9. -/
theorem test_cycleEnd :
    cycleEndStrobes 0 { Regs.reset with hSaPrev := 0b01, hSaCur := 0b10 } =
      { Strobes.zero with saRise := 0b10, saFall := 0b01, cycleDone := true } ∧
    after (.cycleEnd 1) ex2 { Regs.reset with hSaPrev := 0b01, hSaCur := 0b10 }
      (fun r => (r.hSaPrev, r.hGtCur, r.hGtPrev)) = some (0b10, 1, 1) := by decide

/-- DB13: while SETTLING, a result is ignored and the delay goes on. -/
theorem test_cycle_DB13 :
    afterCycle { idleInput with adcValid := true } ex2
      { Regs.reset with scState := .settling, scSettle := 2, scanReq := true }
      (fun r => (r.scState, r.scSettle, r.scanReq)) = (.settling, 1, true) := by decide

/-- DB14 to DB17. -/
theorem test_btnEdge :
    pressEdges 0b1110 { Regs.reset with btnPrev := 0b0001 } = 0b1110 ∧
    pressEdges 0b0010 { Regs.reset with btnPrev := 0b0010 } = 0 ∧
    after (.btnEdge 0b1110) ex2 { Regs.reset with btnPrev := 0b0001 } (·.btnPrev) = some 0b1110 := by decide

/-! Condition state machine. -/

/-- S1, S2. -/
theorem test_alarmEdge :
    after (.alarmEdge 0b11) ex2 Regs.reset (fun r => (r.crPa, r.cc, r.crGa)) = some (0b11, 0b001, 0) ∧
    after (.alarmEdge 0b01) ex2 { Regs.reset with crPa := 0b01, cc := 0b001 } (fun r => (r.crPa, r.cc, r.crGa)) =
      some (0b01, 0b011, 0b01) := by decide

/-- S3, S4. -/
theorem test_alarmEdge_general :
    after (.alarmEdge 0b01) { ex2 with prealarmEn := false } Regs.reset (fun r => (r.crPa, r.cc, r.crGa)) =
      some (0, 0b010, 0b01) ∧
    after (.alarmEdge 0b01) { ex2 with prealarmEn := false } { Regs.reset with crGa := 0b01 } (fun r => (r.cc, r.crGa)) =
      some (0b010, 0b01) := by decide

/-- R172's example. -/
theorem test_troubleEdgeSlc :
    after (.troubleEdgeSlc 0b11) ex2 Regs.reset (fun r => (r.crSt, r.cc)) = some (0b11, 0b100) := by decide

/-- S6. -/
theorem test_troubleEdgeNac :
    after (.troubleEdgeNac 0b100) ex2 Regs.reset (fun r => (r.crNt, r.cc)) = some (0b100, 0b100) := by decide

/-- S7, and an empty mask. -/
theorem test_troubleEdgeGen :
    after (.troubleEdgeGen 1) ex2 Regs.reset (fun r => (r.crGt, r.cc)) = some (1, 0b100) ∧
    after (.troubleEdgeGen 0) ex2 Regs.reset id = some Regs.reset := by decide

/-- R173's example. -/
theorem test_troubleRestoreSlc :
    after (.troubleRestoreSlc 0b01) ex2 { Regs.reset with crSt := 0b11, cc := 0b100 } (fun r => (r.crSt, r.cc)) =
      some (0b10, 0b100) := by decide

/-- S8, S9. -/
theorem test_troubleRestoreNac :
    after (.troubleRestoreNac 0b001) ex2 { Regs.reset with crNt := 0b101 } (·.crNt) = some 0b100 ∧
    after (.troubleRestoreNac 0b011) ex2 { Regs.reset with crNt := 0b100 } (·.crNt) = some 0b100 := by decide

/-- R173, family GEN. -/
theorem test_troubleRestoreGen :
    after (.troubleRestoreGen 1) ex2 { Regs.reset with crGt := 1 } (·.crGt) = some 0 := by decide

/-- R174's example, S10, S12. -/
theorem test_ack :
    after .ack ex2 { Regs.reset with cc := 0b011 } (·.cc) = some 0b010 ∧
    after .ack ex2 { Regs.reset with cc := 0b101 } (·.cc) = some 0b100 ∧
    after .ack ex2 { Regs.reset with cc := 0b100 } (·.cc) = some 0 ∧ after .ack ex2 Regs.reset (·.cc) = some 0 := by decide

/-- S13 to S15. -/
theorem test_silence_prealarm :
    after .silence ex2 Regs.reset id = some Regs.reset ∧
    after .silence ex2 { Regs.reset with crPa := 0b01 } (fun r => (r.nacSilt, r.ui)) = some (0b001, 0b0010000) ∧
    after .silence ex2 { Regs.reset with crPa := 0b01, nacSilt := 0b001, ui := 0b0010000 }
      (fun r => (r.nacSilt, r.ui)) = some (0, 0) := by decide

/-- S16, S17. -/
theorem test_silence_general :
    after .silence ex2 { Regs.reset with crGa := 0b10 } (fun r => (r.nacSilt, r.ui)) = some (0b011, 0b0010000) ∧
    after .silence ex2 { Regs.reset with crGa := 0b10, crPa := 0b01, nacSilt := 0b001, ui := 0b0010000 }
      (fun r => (r.nacSilt, r.ui)) = some (0b010, 0) := by decide

/-- S18, S19. -/
theorem test_resetArm :
    after .resetArm ex2 Regs.reset (·.tsRc) = some 4 ∧
    after .resetArm ex2 { Regs.reset with tsRc := 1 } (·.tsRc) = some 4 := by decide

/-- S20. -/
theorem test_functionBtn : after .functionBtn ex2 Regs.reset id = some Regs.reset := by decide

/-- S21 to S23. -/
theorem test_uiRecompute :
    after .uiRecompute ex2 { Regs.reset with crPa := 0b01, cc := 0b001 } (·.ui) = some 0b1000001 ∧
    after .uiRecompute ex2 { Regs.reset with crPa := 0b01 } (·.ui) = some 0b0000010 ∧
    after .uiRecompute ex2 { Regs.reset with crSt := 0b01, cc := 0b100 } (·.ui) = some 0b1100100 := by decide

/-- S24 to S26. -/
theorem test_uiRecompute_mixed :
    after .uiRecompute ex2 { Regs.reset with crGa := 0b01, crGt := 1, cc := 0b110 } (·.ui) = some 0b1000101 ∧
    after .uiRecompute ex2 { Regs.reset with cc := 0b100 } (·.ui) = some 0 ∧
    after .uiRecompute ex2 { Regs.reset with ui := 0b0010000 } (·.ui) = some 0b0010000 := by decide

/-- S27 to S29. -/
theorem test_nacActivate :
    after .nacActivate ex2 { Regs.reset with crPa := 0b01 } (·.nacAct) = some 0b101 ∧
    after .nacActivate ex2 { Regs.reset with crGa := 0b01, nacSilt := 0b001 } (·.nacAct) = some 0b110 ∧
    after .nacActivate ex2 Regs.reset (·.nacAct) = some 0 := by decide

/-! Output coder. -/

/-- The table of R222. -/
theorem test_t3On :
    [0, 1, 2, 3, 4, 5, 6, 7].map (fun p : BitVec 3 => t3On p) =
      [true, false, true, false, true, false, false, false] := by decide

/-- O2, O3. -/
theorem test_nacCode :
    after .nacCode { ex2 with nacDisable := 0b010, nacPattern := [0, 1, 3] }
      { Regs.reset with nacAct := 0b111, tsMt := true, tsT3 := 1 } (·.oNac) = some 0b001 ∧
    after .nacCode { ex2 with nacPattern := [1, 2, 3] }
      { Regs.reset with nacAct := 0b111, tsMt := true, tsT3 := 4 } (·.oNac) = some 0b101 := by decide

/-- O4, O6. -/
theorem test_nacCode_off :
    after .nacCode { ex2 with nacPattern := [1, 2, 3] }
      { Regs.reset with nacAct := 0b111, tsBuzz := true, tsT3 := 6 } (·.oNac) = some 0b010 ∧
    after .nacCode { ex2 with nacDisable := 0b100 } { Regs.reset with nacAct := 0b100 } (nacWord ex2) = some 0 := by decide

/-- O7 to O9. -/
theorem test_outputDrive :
    after .outputDrive ex2 { Regs.reset with ui := 0b1000001, tsFlash := true } uiWord = some 0x19 ∧
    after .outputDrive ex2 { Regs.reset with ui := 0b1000001 } uiWord = some 0x18 ∧
    after .outputDrive ex2 { Regs.reset with ui := 0b1100100, tsFlash := true } uiWord = some 0x0A := by decide

/-- O10 to O12. -/
theorem test_outputDrive_buzzer :
    after .outputDrive ex2 { Regs.reset with ui := 0b1100100, tsFlash := true, tsBuzz := true } uiWord = some 0x1A ∧
    after .outputDrive ex2 { Regs.reset with ui := 0b0011010 } uiWord = some 0x0F ∧
    after .outputDrive ex2 Regs.reset uiWord = some 0x08 := by decide

/-! The step. -/

/-- The first step after reset runs the placed instruction. -/
theorem test_step_first :
    (match step (State.reset.withFetchWord 8 0x10) with | .next t => some t.regs.tsT3 | _ => none) = some 1 ∧
    (match step (State.reset.withFetchWord 16 0x0180) with | .next t => some t.regs.crPa | _ => none) = some 1 := by decide

/-- Outcome codes 3, 4 and 1 of R241 at operation level, and the end of a program. -/
theorem test_step_refusals :
    refusalOf? (step (State.reset.withFetchWord 8 0x87)) = some (.refuseOpword 0x87) ∧
    refusalOf? (step (State.reset.withFetchWord 16 0x0280)) = some .refuseOperand ∧
    refusalOf? (step ({ State.reset with cfg := { Config.ex1 with nSlc := 9 } }.withFetchWord 8 0)) = some .refuseConfig ∧
    refusalOf? (step State.reset) = some .runEnded := by decide

/-- A reset cycle takes the configuration on the pins; a change without one is refused (R241 codes 2 and 5). -/
theorem test_step_configuration :
    (match step (State.reset.withDriver (.cycles [⟨some ex2, 1⟩])) with | .next t => some t.cfg | _ => none) = some ex2 ∧
    refusalOf? (step (State.reset.withDriver (.cycles [⟨some ex2, 0⟩]))) = some .refuseConfigChange ∧
    refusalOf? (step (State.reset.withDriver (.cycles [⟨none, 0x01000000⟩]))) = some (.refuseStimulus 0x01000000) := by decide

/-! Witnesses: states and operands that meet the hypotheses of the statements, one theorem for each statement that has
hypotheses, with a value for each clause at the edges of its range. -/

/-- A running block of configuration EX2 right after reset. -/
def running : State := at' ex2 Regs.reset

/-- A block whose countdown has expired. -/
def halted : State := at' ex2 { Regs.reset with halted := true, oSysResetReq := true }

/-- A tick away from the expiry. -/
def expiring : Regs := { Regs.reset with tsC := 1, tsRc := 1 }

theorem witness_DecodedBytesAreTheEncoding :
    decode [0x85, 0b100, 0x00] = .ok (.troubleEdgeNac 0b100, [0x00]) ∧ decode [0x00] = .ok (.tickCount, []) := by decide

/-- The neighbours 0xC4 (assigned) and 0xC5 (reserved). -/
theorem witness_ReservedOperationWordsAreRefused :
    running.cfg.Legal ∧ refusalOf? (step (running.withDriver (.operations [0xC5]))) = some (.refuseOpword 0xC5) ∧
    refusalOf? (step (running.withDriver (.operations [0xC4]))) = none := by decide

/-- The first operand value above each width, with the last one inside it next to it. -/
theorem witness_OperandBitsAboveTheirWidthAreRefused :
    running.cfg.Legal ∧ (2 ^ ex2.nSlc ≤ (4 : Byte).toNat ∧ ¬ 2 ^ ex2.nSlc ≤ (3 : Byte).toNat) ∧
    (2 ^ ex2.nNac ≤ (8 : Byte).toNat ∧ ¬ 2 ^ ex2.nNac ≤ (7 : Byte).toNat) ∧
    (2 ≤ (2 : Byte).toNat ∧ 16 ≤ (16 : Byte).toNat) ∧
    (2 ^ ex2.adcW ≤ (4 : Byte).toNat * 256 + (0 : Byte).toNat ∧
      ¬ 2 ^ ex2.adcW ≤ (3 : Byte).toNat * 256 + (255 : Byte).toNat) := by decide

theorem witness_StimulusWordsRoundTrip :
    Input.WellFormed ex2 { idleInput with adcData := 0x3FF } ∧
    (decodeStimulus ex2 0x0003FFFF).map (·.adcData) = some 0x3FF := by decide

/-- The first refused data bit, the last refused bit, and the highest data bit that passes. -/
theorem witness_StimulusBitsStandWhereTheRuleSays :
    legal ex2 = true ∧ (8 + ex2.adcW ≤ 18 ∧ (0x00040000 : StimulusWord).getLsbD 18 = true) ∧
    (8 + ex2.adcW ≤ 31 ∧ (0x80000000 : StimulusWord).getLsbD 31 = true) ∧
    (decodeStimulus ex2 0x00020000).isSome = true ∧ (none : Option Config).getD running.cfg = ex2 ∧
    refusalOf? (step (running.withDriver (.cycles [⟨none, 0x00040000⟩]))) = some (.refuseStimulus 0x00040000) ∧
    refusalOf? (step (running.withDriver (.cycles [⟨none, 0x00020000⟩]))) = none := by decide

theorem witness_StepRunsTheDecodedOperation :
    running.cfg.Legal ∧ decode [0x84, 0b11, 0x8C] = .ok (.troubleEdgeSlc 0b11, [0x8C]) ∧
    (Instr.troubleEdgeSlc 0b11).wellFormed ex2 = true := by decide

/-- The configuration in force, and another one in a reset cycle. -/
theorem witness_StepPerformsOneClockCycle :
    (legal ((none : Option Config).getD ex2) = true ∧ (decodeStimulus ex2 0x00030016).isSome = true ∧
      (none : Option Config).getD ex2 = ex2) ∧
    legal ((some Config.ex1).getD ex2) = true ∧ (decodeStimulus Config.ex1 1).map (·.rst) = some true := by decide

/-- With a new configuration, and out of HALTED. -/
theorem witness_ResetGivesEveryRegisterItsResetValue :
    legal ((some Config.ex1).getD halted.cfg) = true ∧ (decodeStimulus Config.ex1 0x00000001).map (·.rst) = some true ∧
    halted.regs.halted = true := by decide

theorem witness_IllegalConfigurationIsRefused :
    legal { ex2 with resetDelay := 256 } = false ∧ legal ((some { ex2 with nSlc := 0 }).getD ex2) = false := by decide

/-- With and without `rst`. -/
theorem witness_ConfigurationChangeWithoutResetIsRefused :
    Config.ex1.Legal ∧ Config.ex1 ≠ ex2 ∧ (decodeStimulus Config.ex1 0).map (·.rst) = some false ∧
    (decodeStimulus Config.ex1 1).map (·.rst) = some true := by decide

/-- A halted block; a running one whose tick halts it, and one whose does not. -/
theorem witness_HaltedHoldsUntilReset :
    (halted.regs.halted = true ∧ idleInput.rst = false) ∧
    (expiring.halted = false ∧ afterCycle tickInput ex2 expiring (·.halted) = true) ∧
    afterCycle tickInput ex2 { expiring with tsRc := 2 } (·.halted) = false ∧
    afterCycle tickInput ex2 { expiring with tsC := 2 } (·.halted) = false := by decide

theorem witness_HaltedBlockRunsNoOperation : halted.regs.halted = true := by decide

theorem witness_FirstCycleAfterResetLightsThePowerLed :
    ex2.Legal ∧ idleInput.rst = false ∧ idleInput.tick = false ∧ idleInput.btnReset = false ∧ idleInput.btnAck = false ∧
    idleInput.btnSilence = false ∧ idleInput.btnFunction = false := by decide

theorem witness_TickCountAdvancesModulo256 : running.regs.halted = false := by decide

/-- The countdown at 0, 1, 2 and 255. -/
theorem witness_Div2TogglesTheFlasherAndCountsDown :
    running.regs.halted = false ∧ running.regs.tsRc = 0 ∧ expiring.tsRc = 1 ∧ 1 < (2 : Byte).toNat ∧
    1 < (255 : Byte).toNat := by decide

theorem witness_RcExpireRequestsTheResetAndHalts :
    running.regs.halted = false ∧ expiring.halted = false ∧ tickInput.rst = false ∧ tickInput.tick = true ∧
    (expiring.tsC.toNat + 1) % 2 = 0 ∧ expiring.tsRc = 1 := by decide

theorem witness_Div4TogglesTheMarchTimePhase :
    running.regs.halted = false ∧ (({ Regs.reset with tsC := 3 } : Regs).tsC.toNat + 1) % 4 = 0 ∧
    (expiring.tsC.toNat + 1) % 4 ≠ 0 := by decide

theorem witness_Div8AdvancesTemporal3AndRequestsAScan :
    running.regs.halted = false ∧ (({ Regs.reset with tsC := 0xFF } : Regs).tsC.toNat + 1) % 8 = 0 ∧
    (expiring.tsC.toNat + 1) % 8 ≠ 0 := by decide

/-- A cycle-level state with a step to take, from phases that follow TS_C. -/
theorem witness_ClockCyclesKeepThePhaseInvariant :
    AtCycleLevel (running.withDriver (.cycles [⟨none, 2⟩])) ∧ PhaseInv running.regs ∧
    refusalOf? (step (running.withDriver (.cycles [⟨none, 2⟩]))) = none := by
  refine ⟨⟨_, rfl⟩, ?_, by decide⟩
  constructor <;> decide

/-- The countdown of `expiring` goes at its first tick; one tick more and it is still running before it. The reset button
held since its press is no press edge, nor is its release; a new press is one. -/
theorem witness_CountdownExpiresAfterItsTicks :
    expiring.halted = false ∧ expiring.tsRc ≠ 0 ∧ (∀ inp ∈ [tickInput], inp.rst = false) ∧
    NoResetPress (expiring.btnPrev.getLsbD 0) [tickInput] ∧
    NoResetPress (({ expiring with btnPrev := 1 } : Regs).btnPrev.getLsbD 0)
      [{ tickInput with btnReset := true }, { idleInput with btnReset := true }, idleInput] ∧
    ¬ NoResetPress (expiring.btnPrev.getLsbD 0) [{ tickInput with btnReset := true }] ∧
    2 * expiring.tsRc.toNat - expiring.tsC.toNat % 2 = tickTotal [tickInput] ∧ tickTotal [idleInput] = 0 := by
  simp only [NoResetPress]
  decide

/-- IDLE with a request, CONVERTING with the result there, and IDLE without a request. -/
theorem witness_ScanStartSelectsTheNextChannel :
    (running.regs.halted = false ∧ running.cfg.Legal) ∧ Regs.reset.scState = .idle ∧
    ({ Regs.reset with scanReq := true } : Regs).scanReq = true ∧
    ({ Regs.reset with scState := .converting } : Regs).scState = .converting ∧
    ({ idleInput with adcValid := true } : Input).adcValid = true ∧ Regs.reset.scanReq = false := by decide

/-- A settling delay of 1 and one above it. -/
theorem witness_SettleStepCountsDownAndStarts :
    running.regs.halted = false ∧ (1 : BitVec 16) ≠ 0 ∧ (2 : BitVec 16) ≠ 0 ∧ (2 : BitVec 16) ≠ 1 ∧
    ({ Regs.reset with scState := .settling, scSettle := 1 } : Regs).scState = .settling := by decide

theorem witness_SettleStepAtZeroLeavesAFreeValue :
    running.regs.halted = false ∧ running.regs.scSettle = 0 := by decide

/-- A delay of 2: one cycle before the strobe, and the cycle of the strobe. -/
theorem witness_SettlingDelayEndsWithTheStartStrobe :
    let s := at' ex2 { Regs.reset with scState := .settling, scSettle := 2 }
    s.regs.scState = .settling ∧ (∀ inp ∈ [idleInput, tickInput], inp.rst = false) ∧
    ((s.runCycles [idleInput]).regs.halted = false ∧ [idleInput].length < s.regs.scSettle.toNat) ∧
    ((s.runCycles [idleInput, tickInput]).regs.halted = false ∧
      [idleInput, tickInput].length = s.regs.scSettle.toNat) := by decide

/-- EX2 has five channels: the first, the last SLC, the first NAC, and the last. -/
theorem witness_SampleDoneStoresTheClassifiedBits :
    running.regs.halted = false ∧ running.cfg.Legal ∧ (0#4).toNat + 1 < ex2.nCh ∧ (1#4).toNat < ex2.nSlc ∧
    ¬ (2#4).toNat < ex2.nSlc ∧ (4#4).toNat + 1 = ex2.nCh ∧
    ({ Regs.reset with scState := .converting } : Regs).scState = .converting := by decide

theorem witness_CycleEndReportsRisesAndFalls : running.regs.halted = false := by decide

/-- A cycle in which a scan cycle ends, and one in which it does not. -/
theorem witness_StrobesComeOnlyAtTheEndOfAScanCycle :
    (phaseBStrobes ex2 { idleInput with adcValid := true }
      { Regs.reset with scState := .converting, scCh := 4 }).cycleDone = true ∧
    (phaseBStrobes ex2 { idleInput with adcValid := true }
      { Regs.reset with scState := .converting, scCh := 3 }).cycleDone = false := by decide

theorem witness_EachScanCycleIsComparedWithTheOneBefore :
    (phaseBStrobes ex2 { idleInput with adcValid := true, gtIn := 1 }
      { Regs.reset with scState := .converting, scCh := 4 }).gtRise = 1 ∧
    (phaseBStrobes ex2 idleInput { Regs.reset with scState := .converting, scCh := 4 }).cycleDone = false := by decide

/-- Both states in which a result is unsolicited. -/
theorem witness_UnsolicitedConversionResultsAreIgnored :
    Regs.reset.scState ≠ .converting ∧ ({ Regs.reset with scState := .settling } : Regs).scState ≠ .converting := by
  decide

theorem witness_ScannerWaitsForTheConversion :
    ({ Regs.reset with scState := .converting, scanReq := true } : Regs).scState = .converting ∧
    (∀ inp ∈ [tickInput, idleInput], inp.rst = false ∧ inp.adcValid = false) := by decide

theorem witness_ButtonEdgesAreNewPresses :
    running.regs.halted = false ∧ (pressEdges 0b0001 Regs.reset).getLsbD 0 = true := by decide

/-- Pre-alarm free; pre-alarm taken; pre-alarm disabled. -/
theorem witness_AlarmEdgeLatchesPreAlarmThenGeneralAlarm :
    running.regs.halted = false ∧ (0b01 : Mask) ≠ 0 ∧ (running.cfg.prealarmEn = true ∧ running.regs.crPa = 0) ∧
    (0b01 : Mask) ≠ 0 ∧ ({ ex2 with prealarmEn := false } : Config).prealarmEn = false := by decide

theorem witness_TroubleEdgeLatchesItsFamily :
    running.regs.halted = false ∧ (0b10 : Mask) ≠ 0 ∧ (1 : BitVec 1) ≠ 0 := by decide

theorem witness_TroubleRestoreClearsExactlyItsBits : running.regs.halted = false := by decide

theorem witness_AcknowledgeClearsTheHighestPriority : running.regs.halted = false := by decide

/-- No alarm; pre-alarm only; a general alarm. -/
theorem witness_SilenceTogglesTheCircuitsInScope :
    running.regs.halted = false ∧ (running.regs.crPa = 0 ∧ running.regs.crGa = 0) ∧
    ({ Regs.reset with crPa := 1 } : Regs).crPa ≠ 0 ∧ ({ Regs.reset with crGa := 1 } : Regs).crGa ≠ 0 := by decide

/-- A press in an ordinary cycle and one in the expiring cycle (T10, T11). -/
theorem witness_ResetPressLoadsTheCountdown :
    ex2.Legal ∧ expiring.halted = false ∧ ({ tickInput with btnReset := true } : Input).rst = false ∧
    expiring.btnPrev.getLsbD 0 = false ∧
    afterCycle { tickInput with btnReset := true } ex2 expiring (·.halted) = true ∧
    afterCycle { tickInput with btnReset := true } ex2 { expiring with tsRc := 2 } (·.halted) = false := by decide

theorem witness_UiRecomputeDrivesTheDerivedFields : running.regs.halted = false := by decide

theorem witness_NacActivateFollowsTheAlarms : running.regs.halted = false ∧ 0 < 8 ∧ 7 < 8 := by decide

/-- An operation and a clock cycle without `rst`, with an alarm latched. -/
theorem witness_AlarmCausesAreClearedOnlyByReset :
    refusalOf? (step ((at' ex2 { Regs.reset with crPa := 1 }).withDriver (.operations [0x8C]))) = none ∧
    refusalOf? (step ((at' ex2 { Regs.reset with crPa := 1 }).withDriver (.cycles [⟨none, 0⟩]))) = none ∧
    (decodeStimulus ((none : Option Config).getD ex2) 0).map (·.rst) = some false := by decide

/-- The first lane and the last one. -/
theorem witness_NacCodeGatesEachCircuit :
    running.regs.halted = false ∧ running.cfg.Legal ∧ running.cfg.nNac ≤ 3 ∧ running.cfg.nacPattern[0]? = some 0 ∧
    running.cfg.nacPattern[2]? = some 0 := by decide

theorem witness_OutputDriveShowsTheUiState : running.regs.halted = false := by decide

/-- DIV4 is no writer of TS_C and writes TS_MT. -/
theorem witness_RegistersHaveOnlyTheirWriters :
    refusalOf? (exec .div4 running) = none ∧ Instr.div4.opcode ∉ RegName.tsC.writers ∧
    Instr.div4.opcode ∈ RegName.tsMt.writers := by decide

/-- A register of each phase that the other two leave alone. -/
theorem witness_PhasesWriteOnlyTheirOwnRegisters :
    RegName.crPa ∉ ([.tsC, .tsFlash, .tsMt, .tsBuzz, .tsT3, .tsRc, .scanReq, .halted, .oSysResetReq] : List RegName) := by
  decide

/-- In reset, halted, running, and halted by this very cycle. -/
theorem witness_ClockCycleIsItsOperationsInOrder :
    ({ idleInput with rst := true } : Input).rst = true ∧ (idleInput.rst = false ∧ halted.regs.halted = true) ∧
    running.regs.halted = false ∧ (expiring.halted = false ∧ afterCycle tickInput ex2 expiring (·.halted) = true) := by
  decide

theorem witness_TickCounterCountsTickCycles :
    (∀ inp ∈ [tickInput, tickInput], inp.rst = false) ∧
    (running.runCycles [tickInput, tickInput]).regs.halted = false := by decide

theorem witness_InvariantsHoldAtReset : ex2.Legal := by decide

/-- A state that meets the invariants and takes a step, at either level. -/
theorem witness_EveryStepKeepsTheInvariants :
    Inv (running.withDriver (.operations [0x10])) ∧ Inv (running.withDriver (.cycles [⟨none, 2⟩])) ∧
    refusalOf? (step (running.withDriver (.operations [0x10]))) = none ∧
    refusalOf? (step (running.withDriver (.cycles [⟨none, 2⟩]))) = none := by
  refine ⟨?_, ?_, by decide, by decide⟩
  all_goals
    constructor
    case inWidth => constructor <;> decide
    case silenced =>
      intro j hj
      exact absurd hj (by simp [running, at', Regs.reset, State.withDriver])
    all_goals decide

end Sys2Proof.Tests
end

section
/-! The state (10_state.md): the invariants every step keeps, the frame of the operations, alarm causes, reset and halt. -/

namespace Sys2Proof.Machine

/-! ### The four ways of a clock cycle -/

/-- What a clock cycle does: it resets, it leaves a halted block alone, its phase A halts the block, or the block goes on
through all three phases (R66). -/
theorem cycle_cases (c : Config) (free : BitVec 16) (inp : Input) (r : Regs) :
    (inp.rst = true ∧ r.cycle c free inp = Regs.reset) ∨
    (inp.rst = false ∧ r.halted = true ∧ r.cycle c free inp = r) ∨
    (inp.rst = false ∧ r.halted = false ∧ (phaseA inp.tick r.clearStart).halted = true ∧
      r.cycle c free inp = phaseA inp.tick r.clearStart) ∨
    (inp.rst = false ∧ r.halted = false ∧ (inp.tick && tickExpires r) = false ∧
      r.cycle c free inp = mainPass c inp (phaseBStrobes c inp (phaseA inp.tick r.clearStart))
        (phaseB c free inp (phaseA inp.tick r.clearStart))) := by
  by_cases hrst : inp.rst = true
  · exact .inl ⟨hrst, cycle_inReset c free inp r hrst⟩
  rw [Bool.not_eq_true] at hrst
  by_cases hh : r.halted = true
  · exact .inr (.inl ⟨hrst, hh, cycle_halted c free inp r hrst hh⟩)
  rw [Bool.not_eq_true] at hh
  have ha := phaseA_halted r.clearStart inp.tick hh
  rw [tickExpires_clearStart] at ha
  by_cases hx : (inp.tick && tickExpires r) = true
  · obtain ⟨ht, he⟩ := Bool.and_eq_true_iff.mp hx
    exact .inr (.inr (.inl ⟨hrst, hh, ha.trans hx, ht ▸ cycle_expires c free inp r hrst hh ht he⟩))
  · rw [Bool.not_eq_true] at hx
    exact .inr (.inr (.inr ⟨hrst, hh, hx, cycle_runs c free inp r hrst hh hx⟩))

/-! ### The phases follow the tick counter (R54 (a), R106) -/

/-- Adding 1 to a counter adds 1 to its bits from `k` on exactly when all the bits below are 1 (R106). -/
theorem extractLsb'_add_one {w k n : Nat} (v : BitVec w) (h : k + n ≤ w) :
    (v + 1).extractLsb' k n =
      if (v.toNat + 1) % 2 ^ k = 0 then v.extractLsb' k n + 1 else v.extractLsb' k n := by
  have hpow : 2 ^ w = 2 ^ k * 2 ^ (w - k) := by rw [← Nat.pow_add]; congr 1; omega
  have hdvd : 2 ^ n ∣ 2 ^ (w - k) := Nat.pow_dvd_pow 2 (by omega)
  have hsum : ((v + 1).extractLsb' k n).toNat = (v.toNat + 1) / 2 ^ k % 2 ^ n := by
    rw [BitVec.extractLsb'_toNat, BitVec.toNat_add, Nat.shiftRight_eq_div_pow]
    simp [hpow, Nat.mod_mul_right_div_self, Nat.mod_mod_of_dvd _ hdvd]
  apply BitVec.eq_of_toNat_eq
  simp only [hsum, Nat.succ_div, Nat.dvd_iff_mod_eq_zero]
  split_ifs <;> simp [Nat.shiftRight_eq_div_pow]

/-- Adding 1 to a counter toggles its bit `k` exactly when all the bits below are 1 (R106). -/
theorem getLsbD_add_one {w k : Nat} (v : BitVec w) (h : k < w) :
    (v + 1).getLsbD k = if (v.toNat + 1) % 2 ^ k = 0 then !v.getLsbD k else v.getLsbD k := by
  have hbit (u : BitVec w) : u.getLsbD k = (u.extractLsb' k 1).getLsbD 0 := by simp
  rw [hbit, extractLsb'_add_one v h, hbit v]
  have hone : ∀ u : BitVec 1, (u + 1).getLsbD 0 = !u.getLsbD 0 := by decide
  split_ifs
  · exact hone _
  · rfl

section
variable {r : Regs}

theorem phaseInv_reset : PhaseInv Regs.reset := ⟨by decide, by decide, by decide, by decide⟩

theorem phaseInv_of_halted (h : r.halted = true) : PhaseInv r := by
  constructor <;> exact fun hh => absurd (h.symm.trans hh) (by decide)

/-- A tick that does not halt the block steps each phase as the carry steps its bits of TS_C (R67, R106). -/
theorem PhaseInv.phaseA_tick (hh : r.halted = false) (hx : tickExpires r = false) (h : PhaseInv r) :
    PhaseInv (phaseA true r) := by
  rw [phaseA_tick_eq r hh]
  constructor <;> intro _
  case flash => simp only [h.flash hh, getLsbD_add_one r.tsC (k := 1) (by decide), Nat.reducePow]
  case mt => simp only [h.mt hh, hx, and_true, getLsbD_add_one r.tsC (k := 2) (by decide), Nat.reducePow]
  case buzz => simp only [h.buzz hh, hx, and_true, getLsbD_add_one r.tsC (k := 3) (by decide), Nat.reducePow]
  case t3 => simp only [h.t3 hh, hx, and_true, extractLsb'_add_one r.tsC (k := 3) (n := 3) (by decide), Nat.reducePow]

/-- A clock cycle keeps the phase invariant: only phase A writes the phases and TS_C (R72). -/
theorem PhaseInv.cycle (c : Config) (free : BitVec 16) (inp : Input) (h : PhaseInv r) :
    PhaseInv (r.cycle c free inp) := by
  rcases cycle_cases c free inp r with ⟨-, hr⟩ | ⟨-, -, hr⟩ | ⟨-, -, hx, hr⟩ | ⟨-, hh, hx, hr⟩ <;> rw [hr]
  · exact phaseInv_reset
  · exact h
  · exact phaseInv_of_halted hx
  · have hc : PhaseInv r.clearStart := { h with }
    have ha : PhaseInv (phaseA inp.tick r.clearStart) := by
      cases ht : inp.tick
      · exact hc
      · rw [ht, Bool.true_and] at hx
        exact hc.phaseA_tick hh hx
    exact ⟨by simpa using ha.flash, by simpa using ha.mt, by simpa using ha.buzz, by simpa using ha.t3⟩

end

/-- Settles O22, by `PhaseInv.cycle`: a step at cycle level is one clock cycle. -/
theorem clockCyclesKeepThePhaseInvariant : Obligations.ClockCyclesKeepThePhaseInvariant := by
  rintro s t ⟨xs, hxs⟩ hs hstep
  rcases step_next_cases hstep with ⟨bytes, i, rest, hd, -⟩ | ⟨x, rest, inp, -, -, -, -, rfl⟩
  · exact nomatch hxs.symm.trans hd
  · exact hs.cycle _ _ inp

/-! ### The invariants of the registers (R54 (c) to (h), R133) -/

section
variable {c : Config} {r : Regs}

/-- The registers' part of `Inv`, the widths of the masks flattened in: what it says of a state it says of the
configuration and the registers (`inv_iff_regInv`). -/
structure RegInv (c : Config) (r : Regs) : Prop extends Regs.InWidth c r where
  legal : c.Legal
  noPrealarm : c.prealarmEn = false → r.crPa = 0
  silenced : ∀ j, r.nacSilt.getLsbD j = true → nacBase c r j = true
  scPtr : r.scPtr.toNat < c.nCh
  scCh : r.scCh.toNat < c.nCh
  resetReq : r.oSysResetReq = r.halted
  countdown : r.tsRc.toNat ≤ c.resetDelay
  settling : r.scState = .settling → r.scSettle ≠ 0
  noTrouble : c.troubleClassifyEn = false → r.hStPrev = 0 ∧ r.hStCur = 0 ∧ r.hNtPrev = 0 ∧ r.hNtCur = 0

theorem inv_iff_regInv (s : State) : Inv s ↔ RegInv s.cfg s.regs :=
  ⟨fun h => { h, h.inWidth with }, fun h => { h with inWidth := h.toInWidth }⟩

theorem fits_zero (n : Nat) : Mask.Fits 0 n := Nat.two_pow_pos n

theorem nCh_pos (hc : c.Legal) : 0 < c.nCh := Nat.add_pos_left hc.1.1 _

theorem nCh_le (hc : c.Legal) : c.nCh ≤ 16 := Nat.add_le_add hc.1.2 hc.2.1.2

theorem regInv_reset (hc : c.Legal) : RegInv c Regs.reset where
  hSaPrev := fits_zero _
  hSaCur := fits_zero _
  hStPrev := fits_zero _
  hStCur := fits_zero _
  hNtPrev := fits_zero _
  hNtCur := fits_zero _
  crPa := fits_zero _
  crGa := fits_zero _
  crSt := fits_zero _
  crNt := fits_zero _
  nacSilt := fits_zero _
  nacAct := fits_zero _
  oNac := fits_zero _
  legal := hc
  noPrealarm _ := rfl
  silenced j hj := by simp [Regs.reset] at hj
  scPtr := nCh_pos hc
  scCh := nCh_pos hc
  resetReq := rfl
  countdown := Nat.zero_le _
  settling h := nomatch h
  noTrouble _ := ⟨rfl, rfl, rfl, rfl⟩

/-! Each operation keeps them. A proof names the fields the operation writes; the others stand as they were. -/

theorem RegInv.tickCount (h : RegInv c r) : RegInv c (tickCount r) := { h with }

theorem RegInv.rcExpire (h : RegInv c r) : RegInv c (rcExpire r) := { h with resetReq := rfl }

theorem RegInv.div2 (h : RegInv c r) : RegInv c (div2 r) := by
  rw [div2_eq]
  exact { h with
    resetReq := congrArg (r.tsRc == 1 || ·) h.resetReq
    countdown := by
      have := h.countdown
      dsimp only
      split_ifs
      · exact this
      · bv_omega }

theorem RegInv.div4 (h : RegInv c r) : RegInv c (div4 r) := { h with }

theorem RegInv.div8 (h : RegInv c r) : RegInv c (div8 r) := { h with }

theorem RegInv.scanStart (h : RegInv c r) : RegInv c (scanStart c r) :=
  { h with
    scCh := h.scPtr
    settling := fun _ hz => by
      obtain ⟨-, -, -, ⟨hpos, hle⟩, -⟩ := h.legal
      have := congrArg BitVec.toNat hz
      simp [Machine.scanStart] at this
      omega }

theorem RegInv.settleStep (free : BitVec 16) (h : RegInv c r) : RegInv c (settleStep free r) := by
  rw [settleStep_eq]
  exact { h with
    settling := by
      dsimp only
      split_ifs with hz
      · exact nofun
      · exact fun _ => hz }

theorem RegInv.cycleEnd (gt : BitVec 1) (h : RegInv c r) : RegInv c (cycleEnd gt r) :=
  { h with
    hSaPrev := h.hSaCur
    hStPrev := h.hStCur
    hNtPrev := h.hNtCur
    noTrouble := fun hc =>
      have ⟨_, hSt, _, hNt⟩ := h.noTrouble hc
      ⟨hSt, hSt, hNt, hNt⟩ }

theorem writeLane_zero_false (n i : Nat) : writeLane n 0 i false = 0 := by
  simp [writeLane, writeBit]

theorem RegInv.storeSample (raw : BitVec 16) (h : RegInv c r) : RegInv c (storeSample c raw r) := by
  rw [storeSample_eq]
  by_cases hk : r.scCh.toNat < c.nSlc
  · simp only [if_pos hk]
    exact { h with
      hSaCur := fits_writeLane h.hSaCur _ _
      hStCur := fits_writeLane h.hStCur _ _
      noTrouble := fun hc => by
        obtain ⟨hSt, hSt', hNt⟩ := h.noTrouble hc
        exact ⟨hSt, by simp only [hc, hSt', Bool.false_and, writeLane_zero_false], hNt⟩ }
  · simp only [if_neg hk]
    exact { h with
      hNtCur := fits_writeLane h.hNtCur _ _
      noTrouble := fun hc => by
        obtain ⟨hSt, hSt', hNt, hNt'⟩ := h.noTrouble hc
        exact ⟨hSt, hSt', hNt, by simp only [hc, hNt', Bool.false_and, writeLane_zero_false]⟩ }

theorem RegInv.sampleDone (raw : BitVec 16) (gt : BitVec 1) (h : RegInv c r) : RegInv c (sampleDone c raw gt r) := by
  have hs : RegInv c { Machine.storeSample c raw r with scState := .idle } :=
    { h.storeSample raw with settling := nofun }
  by_cases hl : lastChannel c r = true
  · simp only [Machine.sampleDone, if_pos hl]
    exact { hs.cycleEnd gt with scPtr := nCh_pos h.legal }
  · simp only [Machine.sampleDone, if_neg hl]
    exact { hs with
      scPtr := by
        have hle := nCh_le h.legal
        have hch := h.scCh
        rw [lastChannel, beq_iff_eq] at hl
        have hnext : (r.scCh + 1).toNat = r.scCh.toNat + 1 := BitVec.toNat_add_of_lt (by simp; omega)
        show (r.scCh + 1).toNat < c.nCh
        omega }

theorem RegInv.btnEdge (btn : BitVec 4) (h : RegInv c r) : RegInv c (btnEdge btn r) := { h with }

/-- A circuit is driven by a general alarm, or by a pre-alarm when it takes part in that (R179). -/
theorem nacBase_iff {j : Nat} :
    nacBase c r j = true ↔ r.crGa ≠ 0 ∨ r.crPa ≠ 0 ∧ c.nacPrealarm.getLsbD j = true := by
  simp [nacBase]

/-- A driven circuit stays driven while no alarm cause register is emptied. -/
theorem nacBase_mono {r' : Regs} {j : Nat} (hpa : r.crPa ≠ 0 → r'.crPa ≠ 0) (hga : r.crGa ≠ 0 → r'.crGa ≠ 0)
    (h : nacBase c r j = true) : nacBase c r' j = true :=
  nacBase_iff.mpr ((nacBase_iff.mp h).imp hga (And.imp_left hpa))

theorem or_ne_zero_of_left {w : Nat} {a : BitVec w} (b : BitVec w) (h : a ≠ 0) : a ||| b ≠ 0 :=
  fun h0 => h (BitVec.or_eq_zero_iff.mp h0).1

theorem RegInv.alarmEdge {m : Mask} (hm : Mask.Fits m c.nSlc) (h : RegInv c r) : RegInv c (alarmEdge c m r) := by
  rw [alarmEdge_eq]
  by_cases hp : c.prealarmEn = true ∧ r.crPa = 0
  · simp only [if_pos hp]
    exact { h with
      crPa := fits_or h.crPa hm
      noPrealarm := fun hc => absurd hc (by simp [hp.1])
      silenced := fun j hj => nacBase_mono (r := r) (or_ne_zero_of_left m) id (h.silenced j hj) }
  · simp only [if_neg hp]
    exact { h with
      crGa := fits_or h.crGa hm
      silenced := fun j hj => nacBase_mono (r := r) id (or_ne_zero_of_left m) (h.silenced j hj) }

theorem RegInv.troubleEdgeSlc {m : Mask} (hm : Mask.Fits m c.nSlc) (h : RegInv c r) :
    RegInv c (troubleEdgeSlc m r) := { h with crSt := fits_or h.crSt hm }

theorem RegInv.troubleEdgeNac {m : Mask} (hm : Mask.Fits m c.nNac) (h : RegInv c r) :
    RegInv c (troubleEdgeNac m r) := { h with crNt := fits_or h.crNt hm }

theorem RegInv.troubleEdgeGen (m : BitVec 1) (h : RegInv c r) : RegInv c (troubleEdgeGen m r) := { h with }

theorem RegInv.troubleRestoreSlc (m : Mask) (h : RegInv c r) : RegInv c (troubleRestoreSlc m r) :=
  { h with crSt := fits_and_left _ h.crSt }

theorem RegInv.troubleRestoreNac (m : Mask) (h : RegInv c r) : RegInv c (troubleRestoreNac m r) :=
  { h with crNt := fits_and_left _ h.crNt }

theorem RegInv.troubleRestoreGen (m : BitVec 1) (h : RegInv c r) : RegInv c (troubleRestoreGen m r) := { h with }

theorem RegInv.acknowledgeTop (h : RegInv c r) : RegInv c (acknowledgeTop r) := { h with }

/-- SILENCE toggles driven circuits only: all of them under a general alarm, those with `NAC_PREALARM` under a
pre-alarm (R175, R179). -/
theorem RegInv.silence (h : RegInv c r) : RegInv c (silence c r) := by
  have hfits : Mask.Fits c.nacSilenceable c.nNac := by
    obtain ⟨-, -, -, -, -, -, ⟨hs, -⟩, -⟩ := h.legal
    exact hs
  unfold Machine.silence
  split_ifs with hpa hga
  · exact { h with
      nacSilt := fits_xor h.nacSilt (fits_and_left _ hfits)
      silenced := fun j hj => by
        by_cases hold : r.nacSilt.getLsbD j = true
        · exact nacBase_mono (r := r) id id (h.silenced j hold)
        · have hpre : c.nacPrealarm.getLsbD j = true := by simp_all
          exact nacBase_iff.mpr (.inr ⟨hpa.1, hpre⟩) }
  · exact { h with
      nacSilt := fits_xor h.nacSilt hfits
      silenced := fun j _ => nacBase_iff.mpr (.inl hga) }
  · exact h

theorem RegInv.resetArm (h : RegInv c r) : RegInv c (resetArm c r) := { h with countdown := Nat.mod_le _ _ }

theorem RegInv.functionBtn (h : RegInv c r) : RegInv c (functionBtn r) := h

theorem RegInv.uiRecompute (h : RegInv c r) : RegInv c (uiRecompute r) := { h with }

theorem RegInv.nacActivate (h : RegInv c r) : RegInv c (nacActivate c r) :=
  { h with nacAct := fits_and_left _ (fits_lanes _ _) }

theorem RegInv.nacCode (h : RegInv c r) : RegInv c (nacCode c r) := { h with oNac := fits_lanes _ _ }

theorem RegInv.outputDrive (h : RegInv c r) : RegInv c (outputDrive r) := { h with }

/-- Every well-formed operation keeps the invariants (R54 (c) to (h)). -/
theorem RegInv.effect {i : Instr} (free : BitVec 16) (hw : i.wellFormed c = true) (h : RegInv c r) :
    RegInv c (effect i free c r) := by
  cases i with
  | tickCount => exact h.tickCount
  | div2 => exact h.div2
  | rcExpire => exact h.rcExpire
  | div4 => exact h.div4
  | div8 => exact h.div8
  | scanStart => exact h.scanStart
  | settleStep => exact h.settleStep free
  | sampleDone raw gt => exact h.sampleDone raw gt
  | cycleEnd gt => exact h.cycleEnd gt
  | btnEdge btn => exact h.btnEdge btn
  | alarmEdge m => exact h.alarmEdge (of_decide_eq_true hw)
  | troubleEdgeSlc m => exact h.troubleEdgeSlc (of_decide_eq_true hw)
  | troubleEdgeNac m => exact h.troubleEdgeNac (of_decide_eq_true hw)
  | troubleEdgeGen m => exact h.troubleEdgeGen m
  | troubleRestoreSlc m => exact h.troubleRestoreSlc m
  | troubleRestoreNac m => exact h.troubleRestoreNac m
  | troubleRestoreGen m => exact h.troubleRestoreGen m
  | ack => exact h.acknowledgeTop
  | silence => exact h.silence
  | resetArm => exact h.resetArm
  | functionBtn => exact h.functionBtn
  | uiRecompute => exact h.uiRecompute
  | nacActivate => exact h.nacActivate
  | nacCode => exact h.nacCode
  | outputDrive => exact h.outputDrive

/-! The phases of the clock cycle keep them, operation by operation (R66 to R69). -/

theorem RegInv.clearStart (h : RegInv c r) : RegInv c r.clearStart := { h with }

theorem RegInv.onlyIf {b : Bool} {op : Regs → Regs} (hop : RegInv c r → RegInv c (op r)) (h : RegInv c r) :
    RegInv c (r.onlyIf b op) := by
  cases b
  · exact h
  · exact hop h

theorem RegInv.tickOps (h : RegInv c r) : RegInv c (tickOps r) := by
  have hdiv2 := h.tickCount.onlyIf (b := (Machine.tickCount r).tsC.toNat % 2 == 0) div2
  unfold Machine.tickOps
  dsimp only
  split_ifs
  · exact hdiv2
  · exact (hdiv2.onlyIf div4).onlyIf div8

theorem RegInv.phaseA (tick : Bool) (h : RegInv c r) : RegInv c (phaseA tick r) := h.onlyIf tickOps

theorem RegInv.sampleOrSettle (free : BitVec 16) (inp : Input) (h : RegInv c r) :
    RegInv c (sampleOrSettle c free inp r) := by
  unfold Machine.sampleOrSettle
  split_ifs
  · exact h.sampleDone inp.adcData inp.gtIn
  · exact h.onlyIf (settleStep free)

theorem RegInv.phaseB (free : BitVec 16) (inp : Input) (h : RegInv c r) : RegInv c (phaseB c free inp r) :=
  (h.sampleOrSettle free inp).onlyIf scanStart

/-- The edge strobes that name channels are in the channels' width (R71). The falls need no width: they only clear. -/
structure Strobes.RisesFit (c : Config) (e : Strobes) : Prop where
  saRise : Mask.Fits e.saRise c.nSlc
  stRise : Mask.Fits e.stRise c.nSlc
  ntRise : Mask.Fits e.ntRise c.nNac

theorem cycleEndStrobes_risesFit (gt : BitVec 1) (h : RegInv c r) : (cycleEndStrobes gt r).RisesFit c where
  saRise := fits_rise _ h.hSaCur
  stRise := fits_rise _ h.hStCur
  ntRise := fits_rise _ h.hNtCur

theorem zero_risesFit : Strobes.zero.RisesFit c := ⟨fits_zero _, fits_zero _, fits_zero _⟩

theorem phaseBStrobes_risesFit (inp : Input) (h : RegInv c r) : (phaseBStrobes c inp r).RisesFit c := by
  unfold phaseBStrobes sampleStrobes
  split_ifs
  · exact cycleEndStrobes_risesFit _ (h.storeSample inp.adcData)
  · exact zero_risesFit
  · exact zero_risesFit

theorem RegInv.edgeOps {e : Strobes} (he : e.RisesFit c) (h : RegInv c r) : RegInv c (edgeOps c e r) :=
  h |>.onlyIf (alarmEdge he.saRise)
    |>.onlyIf (troubleEdgeSlc he.stRise)
    |>.onlyIf (troubleEdgeNac he.ntRise)
    |>.onlyIf (troubleEdgeGen _)
    |>.onlyIf (troubleRestoreSlc _)
    |>.onlyIf (troubleRestoreNac _)
    |>.onlyIf (troubleRestoreGen _)

theorem RegInv.buttonOps (b : BitVec 4) (h : RegInv c r) : RegInv c (buttonOps c b r) :=
  h |>.onlyIf acknowledgeTop |>.onlyIf silence |>.onlyIf resetArm |>.onlyIf functionBtn

theorem RegInv.recompute (h : RegInv c r) : RegInv c (recompute c r) :=
  h.uiRecompute.nacActivate.nacCode.outputDrive

theorem RegInv.mainPass (inp : Input) {e : Strobes} (he : e.RisesFit c) (h : RegInv c r) :
    RegInv c (mainPass c inp e r) :=
  h.btnEdge (Input.btn inp) |>.edgeOps he |>.buttonOps _ |>.recompute

/-- A clock cycle keeps the invariants. -/
theorem RegInv.cycle (free : BitVec 16) (inp : Input) (h : RegInv c r) : RegInv c (r.cycle c free inp) := by
  have ha := h.clearStart.phaseA inp.tick
  rcases cycle_cases c free inp r with ⟨-, hr⟩ | ⟨-, -, hr⟩ | ⟨-, -, -, hr⟩ | ⟨-, -, -, hr⟩ <;> rw [hr]
  · exact regInv_reset h.legal
  · exact h
  · exact ha
  · exact (ha.phaseB free inp).mainPass inp (phaseBStrobes_risesFit inp ha)

end

/-- Settles O54, by `RegInv.effect` for an operation and `RegInv.cycle` for a clock cycle; a reset cycle, which may take
another configuration, ends in the reset registers. -/
theorem everyStepKeepsTheInvariants : Obligations.EveryStepKeepsTheInvariants := by
  intro s t hs hstep
  rw [inv_iff_regInv] at hs ⊢
  rcases step_next_cases hstep with
    ⟨bytes, i, rest, -, -, -, hw, hexec⟩ | ⟨x, rest, inp, -, hl, -, hr, rfl⟩
  · obtain ⟨hcfg, -, ⟨-, hregs⟩ | ⟨-, hregs⟩⟩ := exec_next_cases hexec
    · rw [hcfg, hregs]
      exact hs
    · rw [hcfg, hregs]
      exact hs.effect _ hw
  · rcases hr with hrst | hcfg
    · rw [State.cycle_regs, cycle_inReset _ _ _ _ hrst]
      exact regInv_reset hl
    · rw [hcfg]
      exact hs.cycle _ inp

/-- Settles O53: the reset registers meet the invariants, and every phase and the bits of TS_C are 0. -/
theorem invariantsHoldAtReset : Obligations.InvariantsHoldAtReset := by
  have hinv (c : Config) (hc : c.Legal) : Inv (State.resetWith c) := (inv_iff_regInv _).mpr (regInv_reset hc)
  exact ⟨fun c hc => ⟨hinv c hc, phaseInv_reset⟩, hinv Config.ex1 ex1_legal⟩

/-! ### The frame of the operations (R55) -/

/-- An operation leaves the registers it is no writer of: the cases by the unit of the operation, and in each the
registers one by one, each written by the operation or left out of its record update. -/
theorem effect_same (i : Instr) (free : BitVec 16) (c : Config) (r : Regs) (n : RegName) :
    i.opcode ∉ n.writers → n.Same r (effect i free c r) := by
  cases i with
  | tickCount | div2 | rcExpire | div4 | div8 =>
    simp only [Instr.opcode, effect, tickCount, div2_eq, rcExpire, Regs.expire, div4, div8]
    cases n <;> simp [RegName.Same, RegName.writers]
  | scanStart | settleStep | sampleDone | cycleEnd | btnEdge =>
    simp only [Instr.opcode, effect, scanStart, settleStep_eq, sampleDone_eq, cycleEnd, btnEdge]
    cases n <;> simp [RegName.Same, RegName.writers]
  | alarmEdge | troubleEdgeSlc | troubleEdgeNac | troubleEdgeGen | troubleRestoreSlc | troubleRestoreNac
  | troubleRestoreGen =>
    simp only [Instr.opcode, effect, alarmEdge_eq, troubleEdgeSlc,
      troubleEdgeNac, troubleEdgeGen, troubleRestoreSlc, troubleRestoreNac, troubleRestoreGen]
    cases n <;> simp [RegName.Same, RegName.writers]
  | ack | silence | resetArm | functionBtn | uiRecompute | nacActivate =>
    simp only [Instr.opcode, effect, acknowledgeTop, silence_eq, resetArm,
      functionBtn, uiRecompute, nacActivate]
    cases n <;> simp [RegName.Same, RegName.writers]
  | nacCode | outputDrive =>
    simp only [Instr.opcode, effect, nacCode, outputDrive]
    cases n <;> simp [RegName.Same, RegName.writers]

theorem RegName.same_refl (n : RegName) (r : Regs) : n.Same r r := by cases n <;> rfl

/-- Settles O49, by `effect_same`; in a halted block nothing changes. -/
theorem registersHaveOnlyTheirWriters : Obligations.RegistersHaveOnlyTheirWriters := by
  intro i s t hexec
  obtain ⟨hcfg, hdriver, ⟨-, hregs⟩ | ⟨-, hregs⟩⟩ := exec_next_cases hexec
  · exact ⟨hcfg, hdriver, fun n _ => hregs ▸ n.same_refl s.regs⟩
  · exact ⟨hcfg, hdriver, fun n hn => hregs ▸ effect_same i _ _ _ n hn⟩

/-! ### Alarm causes (R39, R40) -/

/-- No bit of CR_PA or CR_GA is lost from `r` to `r'`. -/
structure KeepsAlarms (r r' : Regs) : Prop where
  crPa : ∀ k, r.crPa.getLsbD k = true → r'.crPa.getLsbD k = true
  crGa : ∀ k, r.crGa.getLsbD k = true → r'.crGa.getLsbD k = true

theorem keepsAlarms_of_eq {r r' : Regs} (hpa : r'.crPa = r.crPa) (hga : r'.crGa = r.crGa) : KeepsAlarms r r' :=
  ⟨fun _ => hpa ▸ id, fun _ => hga ▸ id⟩

/-- ALARM_EDGE only adds causes (R171). -/
theorem alarmEdge_keepsAlarms (c : Config) (m : Mask) (r : Regs) : KeepsAlarms r (alarmEdge c m r) := by
  rw [alarmEdge_eq]
  constructor <;> intro k hk <;> dsimp only <;> split_ifs <;> simp [hk]

theorem effect_keepsAlarms (i : Instr) (free : BitVec 16) (c : Config) (r : Regs) :
    KeepsAlarms r (effect i free c r) := by
  have hpa := effect_same i free c r .crPa
  have hga := effect_same i free c r .crGa
  cases i with
  | alarmEdge m => exact alarmEdge_keepsAlarms c m r
  | _ =>
    exact keepsAlarms_of_eq (hpa (by simp [Instr.opcode, RegName.writers])).symm
      (hga (by simp [Instr.opcode, RegName.writers])).symm

theorem cycle_keepsAlarms (c : Config) (free : BitVec 16) {inp : Input} (hrst : inp.rst = false) (r : Regs) :
    KeepsAlarms r (r.cycle c free inp) := by
  rcases cycle_cases c free inp r with ⟨h, -⟩ | ⟨-, -, hr⟩ | ⟨-, -, -, hr⟩ | ⟨-, -, -, hr⟩
  · exact absurd (hrst.symm.trans h) Bool.false_ne_true
  · exact keepsAlarms_of_eq (by rw [hr]) (by rw [hr])
  · exact keepsAlarms_of_eq (by simp [hr]) (by simp [hr])
  · obtain ⟨hpa, hga⟩ := alarmEdge_keepsAlarms c (phaseBStrobes c inp (phaseA inp.tick r.clearStart)).saRise
      (phaseB c free inp (phaseA inp.tick r.clearStart))
    simp only [phaseB_crPa, phaseB_crGa, phaseA_crPa, phaseA_crGa, clearStart_crPa, clearStart_crGa] at hpa hga
    rw [hr]
    exact ⟨fun k => mainPass_crPa c inp _ _ ▸ hpa k, fun k => mainPass_crGa c inp _ _ ▸ hga k⟩

/-- Settles O46, by `effect_keepsAlarms` for an operation and `cycle_keepsAlarms` for a clock cycle. -/
theorem alarmCausesAreClearedOnlyByReset : Obligations.AlarmCausesAreClearedOnlyByReset := by
  intro s t hstep hrst
  suffices h : KeepsAlarms s.regs t.regs from fun k => ⟨h.crPa k, h.crGa k⟩
  rcases step_next_cases hstep with
    ⟨bytes, i, rest, -, -, -, -, hexec⟩ | ⟨x, rest, inp, hd, -, hdec, -, rfl⟩
  · obtain ⟨-, -, ⟨-, hregs⟩ | ⟨-, hregs⟩⟩ := exec_next_cases hexec <;> rw [hregs]
    · exact keepsAlarms_of_eq rfl rfl
    · exact effect_keepsAlarms i _ _ s.regs
  · exact cycle_keepsAlarms _ _ (hrst x rest inp hd hdec) s.regs

/-! ### Reset and halt -/

/-- Settles O11: a cycle with `rst` = 1 ends in the reset registers, which are the written-out ones. -/
theorem resetGivesEveryRegisterItsResetValue : Obligations.ResetGivesEveryRegisterItsResetValue := by
  intro s x rest inp hl hd hdec hrst
  refine ⟨_, (step_cycles hd).trans (runStimulus_cycle hl hdec (.inl hrst)), rfl, ?_⟩
  exact cycle_inReset _ _ _ _ hrst

theorem operate_halted {s : State} (h : s.regs.halted = true) (f : Config → Regs → Regs) : s.operate f = .next s := by
  rw [State.operate, if_pos h]

/-- Settles O15: every operation but SETTLE_STEP is an `operate`, and SETTLE_STEP tests HALTED itself. -/
theorem haltedBlockRunsNoOperation : Obligations.HaltedBlockRunsNoOperation := by
  intro i s h
  have hop := operate_halted h (effect i 0)
  cases i with
  | settleStep => simp only [exec, execSettleStep, if_pos h]
  | _ => exact hop

end Sys2Proof.Machine
end

section
/-! The clock cycle (20_memory.md): a step is one CYCLE, a CYCLE is its operations in order, what each phase writes, the
edge strobes, and the trouble causes over a pass. -/

namespace Sys2Proof.Machine

/-- Settles O10: the step of a cycle-level run is `runStimulus`, which on such a stimulus performs the cycle. -/
theorem stepPerformsOneClockCycle : Obligations.StepPerformsOneClockCycle :=
  fun _ _ _ _ hl hd hdec hr => (step_cycles hd).trans (runStimulus_cycle hl hdec hr)

/-! ### The edge strobes (R71, R134) -/

theorem sampleReady_iff {inp : Input} {r : Regs} :
    sampleReady inp r = true ↔ r.scState = .converting ∧ inp.adcValid = true := by
  simp [sampleReady]

theorem lastChannel_iff {c : Config} {r : Regs} : lastChannel c r = true ↔ r.scCh.toNat + 1 = c.nCh := by
  simp [lastChannel]

/-- Phase B hands on the strobes of CYCLE_END when the sample of the last channel completes, and none otherwise. -/
theorem phaseBStrobes_eq (c : Config) (inp : Input) (r : Regs) : phaseBStrobes c inp r =
    if sampleReady inp r = true ∧ lastChannel c r = true then
      cycleEndStrobes inp.gtIn (storeSample c inp.adcData r)
    else .zero := by
  simp only [phaseBStrobes, sampleStrobes, ite_and]

/-- Settles O30, by `phaseBStrobes_eq`: CYCLE_DONE tells the two cases apart. -/
theorem strobesComeOnlyAtTheEndOfAScanCycle : Obligations.StrobesComeOnlyAtTheEndOfAScanCycle := by
  intro c inp r
  rw [← and_assoc, ← sampleReady_iff, ← lastChannel_iff, phaseBStrobes_eq]
  split_ifs with hend
  · exact ⟨iff_of_true rfl hend, nofun⟩
  · exact ⟨iff_of_false nofun hend, fun _ => rfl⟩

/-! ### The trouble causes over a pass (R69, R172, R173) -/

@[simp] theorem getLsbD_latch {w : Nat} (cr m : BitVec w) (k : Nat) :
    (latch cr m).getLsbD k = (cr.getLsbD k || m.getLsbD k) := BitVec.getLsbD_or

@[simp] theorem getLsbD_restore {w : Nat} (cr m : BitVec w) (k : Nat) :
    (restore cr m).getLsbD k = (cr.getLsbD k && !m.getLsbD k) := by
  by_cases h : k < w
  · simp [restore, h]
  · simp [restore, BitVec.getLsbD_of_ge _ k (Nat.le_of_not_lt h)]

/-- Settles O38: over a pass each trouble cause register is `restore (latch cr rises) falls`. -/
theorem passLatchesRisesAndClearsFalls : Obligations.PassLatchesRisesAndClearsFalls := by
  intro c inp e r k
  rw [mainPass_crSt, mainPass_crNt, mainPass_crGt]
  simp only [getLsbD_restore, getLsbD_latch, and_self]

/-! ### The frame of each phase (R72, R55) -/

/-- Settles O50: register by register, each is one the phase may write or one that the phase's laws of
Sys2Proof/Laws/Phases.lean leave as it was. -/
theorem phasesWriteOnlyTheirOwnRegisters : Obligations.PhasesWriteOnlyTheirOwnRegisters := by
  intro c free inp e r
  refine ⟨?phaseA, ?phaseB, ?phaseC⟩ <;> intro n
  case phaseA => cases n <;> simp [RegName.Same]
  case phaseB => cases n <;> simp [RegName.Same]
  case phaseC => cases n <;> simp [RegName.Same]

/-! ### A list of operations as one function of the registers -/

/-- Running a list goes on from where its first part ends. -/
theorem execAll_append {is : List Instr} (js : List Instr) {s t : State} (h : execAll is s = .next t) :
    execAll (is ++ js) s = execAll js t := by
  induction is generalizing s with
  | nil =>
    cases h
    rfl
  | cons i is ih =>
    obtain ⟨u, hu⟩ := exec_answers_next i s
    simp only [execAll, List.cons_append, hu] at h ⊢
    exact ih h

/-- A halted block is left alone by any list of operations (log entry 5). -/
theorem execAll_halted (is : List Instr) {s : State} (h : s.regs.halted = true) : execAll is s = .next s := by
  induction is with
  | nil => rfl
  | cons i is ih => simp only [execAll, haltedBlockRunsNoOperation i s h, ih]

/-- The functions of a list of operations, one after the other. -/
def effects (is : List Instr) (free : BitVec 16) (c : Config) (r : Regs) : Regs :=
  is.foldl (fun r i => effect i free c r) r

section
variable (free : BitVec 16) (c : Config) (r : Regs)

@[simp] theorem effects_append (is js : List Instr) :
    effects (is ++ js) free c r = effects js free c (effects is free c r) := List.foldl_append

@[simp] theorem effects_callIf (b : Bool) (i : Instr) :
    effects (callIf b i) free c r = r.onlyIf b (effect i free c) := by
  cases b <;> rfl

end

/-- One conditional call on a running block. -/
theorem execAll_callIf (b : Bool) (i : Instr) {s : State} (h : s.regs.halted = false) :
    execAll (callIf b i) s = .next
      { s with
        regs := s.regs.onlyIf b (effect i s.freeSettle s.cfg)
        draws := s.draws + bif b then drawsOf i else 0 } := by
  cases b with
  | false => rfl
  | true => simp only [callIf, if_true, execAll, exec_running i h, Regs.onlyIf_true, cond_true]

/-- The operation neither halts the block nor draws a free value: it is not DIV2, RC_EXPIRE or SETTLE_STEP. -/
abbrev Quiet (i : Instr) : Prop := i.opcode ∉ [.div2, .rcExpire, .settleStep]

theorem drawsOf_of_quiet {i : Instr} (h : Quiet i) : drawsOf i = 0 := by
  cases i with
  | settleStep => exact absurd h (by decide)
  | _ => rfl

theorem effect_halted_of_quiet {i : Instr} (h : Quiet i) (free : BitVec 16) (c : Config) (r : Regs) :
    (effect i free c r).halted = r.halted := by
  have hw : RegName.halted.writers ⊆ [.div2, .rcExpire, .settleStep] := by decide
  exact (effect_same i free c r .halted (mt (@hw _) h)).symm

@[simp] theorem forall_mem_callIf {p : Instr → Prop} {b : Bool} {i : Instr} :
    (∀ j ∈ callIf b i, p j) ↔ (b = true → p i) := by
  cases b <;> simp [callIf]

/-- Quiet operations on a running block change the registers alone, by their functions in order. -/
theorem execAll_quiet {is : List Instr} (hq : ∀ i ∈ is, Quiet i) {s : State} (h : s.regs.halted = false) :
    execAll is s = .next { s with regs := effects is s.freeSettle s.cfg s.regs } := by
  induction is generalizing s with
  | nil => rfl
  | cons i is ih =>
    obtain ⟨hi, his⟩ := List.forall_mem_cons.mp hq
    simp only [execAll, exec_running i h, drawsOf_of_quiet hi]
    exact ih his ((effect_halted_of_quiet hi _ _ _).trans h)

/-! ### The phases run their calls (R66 to R69) -/

/-- The part of a tick that can halt the block: TICK_COUNT, then DIV2 at every second tick (R67). -/
def tickToDiv2 (r : Regs) : Regs := (tickCount r).onlyIf ((r.tsC + 1).toNat % 2 == 0) div2

theorem tickToDiv2_tsC (r : Regs) : (tickToDiv2 r).tsC = r.tsC + 1 := by
  rw [tickToDiv2, Regs.apply_onlyIf _ Regs.tsC, div2_tsC, ite_self, tickCount]

/-- A tick is its part up to DIV2 and, unless that halts the block, DIV4 and DIV8, as the new TS_C says (R67). -/
theorem tickOps_eq (r : Regs) : tickOps r =
    if (tickToDiv2 r).halted then tickToDiv2 r
    else ((tickToDiv2 r).onlyIf ((r.tsC + 1).toNat % 4 == 0) div4).onlyIf ((r.tsC + 1).toNat % 8 == 0) div8 := by
  have hdiv4 (b : Bool) : ((tickToDiv2 r).onlyIf b div4).tsC = r.tsC + 1 := by
    rw [Regs.apply_onlyIf _ Regs.tsC, div4, ite_self, tickToDiv2_tsC]
  show (if (tickToDiv2 r).halted then tickToDiv2 r
    else ((tickToDiv2 r).onlyIf ((tickToDiv2 r).tsC.toNat % 4 == 0) div4).onlyIf
      (((tickToDiv2 r).onlyIf ((tickToDiv2 r).tsC.toNat % 4 == 0) div4).tsC.toNat % 8 == 0) div8) = _
  rw [hdiv4, tickToDiv2_tsC]

/-- Phase A runs its calls; those after a DIV2 that halts the block change nothing (R67, log entry 5). -/
theorem execAll_phaseACalls (tick : Bool) {s : State} (h : s.regs.halted = false) :
    execAll (phaseACalls tick s.regs) s = .next { s with regs := phaseA tick s.regs } := by
  cases tick with
  | false => rfl
  | true =>
    have hcount : execAll [.tickCount] s = .next { s with regs := tickCount s.regs } := execAll_quiet (by decide) h
    have hdiv2 : execAll (callIf ((s.regs.tsC + 1).toNat % 2 == 0) .div2) { s with regs := tickCount s.regs } =
        .next { s with regs := tickToDiv2 s.regs } := by
      rw [execAll_callIf (s := { s with regs := tickCount s.regs }) _ _ h]
      simp only [drawsOf, Bool.cond_self]
      rfl
    simp only [phaseACalls, if_true, List.append_assoc, phaseA, Regs.onlyIf_true, tickOps_eq]
    rw [execAll_append _ hcount, execAll_append _ hdiv2]
    split_ifs with hx
    · exact execAll_halted _ hx
    · rw [execAll_quiet (by simp [or_imp, forall_and, Quiet, Instr.opcode]) (Bool.eq_false_of_not_eq_true hx)]
      simp only [effects_append, effects_callIf]
      rfl

theorem sampleOrSettle_halted (c : Config) (free : BitVec 16) (inp : Input) (r : Regs) :
    (sampleOrSettle c free inp r).halted = r.halted := by
  unfold sampleOrSettle
  split_ifs
  · rw [sampleDone_eq]
  · rw [Regs.apply_onlyIf r Regs.halted, settleStep_eq, ite_self]

theorem sampleOrSettle_scanReq (c : Config) (free : BitVec 16) (inp : Input) (r : Regs) :
    (sampleOrSettle c free inp r).scanReq = r.scanReq := by
  unfold sampleOrSettle
  split_ifs
  · rw [sampleDone_eq]
  · rw [Regs.apply_onlyIf r Regs.scanReq, settleStep_eq, ite_self]

/-- After the first half of phase B the scanner is IDLE when a sample completed or it was IDLE before: SETTLE_STEP
leaves it SETTLING or CONVERTING (R133, R134). -/
theorem sampleOrSettle_idle (c : Config) (free : BitVec 16) (inp : Input) (r : Regs) :
    ((sampleOrSettle c free inp r).scState == .idle) = (sampleReady inp r || r.scState == .idle) := by
  unfold sampleOrSettle
  split_ifs with hs
  · simp [sampleDone_eq, hs]
  · rw [Bool.not_eq_true] at hs
    rw [Regs.apply_onlyIf r Regs.scState, settleStep_eq, hs, Bool.false_or]
    cases hst : r.scState with
    | idle | converting => rfl
    | settling => dsimp only; split_ifs <;> rfl

/-- Phase B runs its calls, SETTLE_STEP with the free value of the cycle (R68); how many it draws is not told. -/
theorem execAll_phaseBCalls (inp : Input) {s : State} (h : s.regs.halted = false) :
    ∃ draws, execAll (phaseBCalls inp s.regs) s =
      .next { s with regs := phaseB s.cfg s.freeSettle inp s.regs, draws := draws } := by
  have hfirst : ∃ draws, execAll (if sampleReady inp s.regs then [.sampleDone inp.adcData inp.gtIn]
      else callIf (s.regs.scState == .settling) .settleStep) s =
        .next { s with regs := sampleOrSettle s.cfg s.freeSettle inp s.regs, draws := draws } := by
    unfold sampleOrSettle
    split_ifs
    · exact ⟨_, execAll_callIf true _ h⟩
    · exact ⟨_, execAll_callIf _ _ h⟩
  obtain ⟨draws, hfirst⟩ := hfirst
  have hrun := (sampleOrSettle_halted s.cfg s.freeSettle inp s.regs).trans h
  rw [phaseBCalls, execAll_append _ hfirst, ← sampleOrSettle_idle s.cfg s.freeSettle,
    ← sampleOrSettle_scanReq s.cfg s.freeSettle inp]
  exact ⟨_, execAll_callIf _ _ hrun⟩

theorem quiet_mainPassCalls (btn : BitVec 4) (e : Strobes) (b : BitVec 4) :
    ∀ i ∈ mainPassCalls btn e b, Quiet i := by
  simp [mainPassCalls, or_imp, forall_and, Quiet, Instr.opcode]

/-- Phase C runs its calls (R69). -/
theorem execAll_mainPassCalls (inp : Input) (e : Strobes) {s : State} (h : s.regs.halted = false) :
    execAll (mainPassCalls (Input.btn inp) e (pressEdges (Input.btn inp) s.regs)) s =
      .next { s with regs := mainPass s.cfg inp e s.regs } := by
  rw [execAll_quiet (quiet_mainPassCalls _ _ _) h]
  simp only [mainPassCalls, effects_append, effects_callIf]
  rfl

/-- A running block that phase A has not halted runs the calls of phases B and C. -/
theorem execAll_phasesBC (inp : Input) {s : State} (h : s.regs.halted = false) :
    ∃ draws, execAll (phaseBCalls inp s.regs ++ mainPassCalls (Input.btn inp) (phaseBStrobes s.cfg inp s.regs)
      (pressEdges (Input.btn inp) s.regs)) s =
        .next { s with
          regs := mainPass s.cfg inp (phaseBStrobes s.cfg inp s.regs) (phaseB s.cfg s.freeSettle inp s.regs)
          draws := draws } := by
  obtain ⟨draws, hB⟩ := execAll_phaseBCalls inp h
  have hpress : pressEdges (Input.btn inp) s.regs =
      pressEdges (Input.btn inp) (phaseB s.cfg s.freeSettle inp s.regs) := by
    simp only [pressEdges, phaseB_btnPrev]
  rw [execAll_append _ hB, hpress]
  exact ⟨draws, execAll_mainPassCalls inp (phaseBStrobes s.cfg inp s.regs)
    (s := { s with regs := phaseB s.cfg s.freeSettle inp s.regs, draws := draws }) ((phaseB_halted ..).trans h)⟩

/-- Settles O51: each phase runs its calls, and a block that phase A halts is left alone by the rest. -/
theorem clockCycleIsItsOperationsInOrder : Obligations.ClockCycleIsItsOperationsInOrder := by
  intro s inp
  refine ⟨cycle_inReset _ _ _ _, cycle_halted _ _ _ _, fun hrst hh => ?_⟩
  have hA := execAll_phaseACalls inp.tick (s := s.withRegs s.regs.clearStart) hh
  simp only [State.cycle_regs, cycleCalls, List.append_assoc]
  rcases cycle_cases s.cfg s.freeSettle inp s.regs with ⟨h, -⟩ | ⟨-, h, -⟩ | ⟨-, -, hx, hr⟩ | ⟨-, -, hx, hr⟩
  · exact absurd (hrst.symm.trans h) Bool.false_ne_true
  · exact absurd (hh.symm.trans h) Bool.false_ne_true
  · exact ⟨_, (execAll_append _ hA).trans (execAll_halted _ hx), hr.symm, rfl, rfl⟩
  · have hrun : (phaseA inp.tick s.regs.clearStart).halted = false := by
      rw [phaseA_halted s.regs.clearStart inp.tick hh, tickExpires_clearStart, hx]
    have hpress : pressEdges (Input.btn inp) s.regs =
        pressEdges (Input.btn inp) (phaseA inp.tick s.regs.clearStart) := by
      simp only [pressEdges, phaseA_btnPrev, clearStart_btnPrev]
    obtain ⟨draws, hBC⟩ := execAll_phasesBC inp (s := s.withRegs (phaseA inp.tick s.regs.clearStart)) hrun
    rw [hpress]
    exact ⟨_, (execAll_append _ hA).trans hBC, hr.symm, rfl, rfl⟩

end Sys2Proof.Machine
end

section
/-! Operation words (30_encoding.md R81 to R83, R85): decoder and encoder are inverse to each other, a step runs what
the decoder reads, and what the decoder rejects is refused. -/

namespace Sys2Proof

/-! ### Decode and encode (R81 to R83) -/

/-- A one-byte operand is read back from its zero-extended byte (R83). -/
theorem oneByte_setWidth {n : Nat} (hn : n ≤ 8) (mk : BitVec n → Instr) (v : BitVec n) (rest : List Byte) :
    oneByte n mk (v.setWidth 8 :: rest) = .ok (mk v, rest) := by
  simp only [oneByte, narrow_setWidth hn]

/-- An operand of a whole byte is that byte (R83). -/
theorem oneByte_byte (mk : Byte → Instr) (b : Byte) (rest : List Byte) :
    oneByte 8 mk (b :: rest) = .ok (mk b, rest) := by
  simpa using oneByte_setWidth le_rfl mk b rest

/-- A sample is read back from its two bytes, low byte first, and the byte of `gt` (R83). -/
theorem sampleBytes_operandBytes (raw : BitVec 16) (gt : BitVec 1) (rest : List Byte) :
    sampleBytes ((Instr.sampleDone raw gt).operandBytes ++ rest) = .ok (.sampleDone raw gt, rest) := by
  have hraw : raw.extractLsb' 8 8 ++ raw.extractLsb' 0 8 = raw := BitVec.extractLsb'_append_extractLsb'
  simp only [Instr.operandBytes, List.cons_append, List.nil_append, sampleBytes, hraw,
    oneByte_setWidth (by decide : 1 ≤ 8)]

/-- What SAMPLE_DONE leaves of the program (R83). -/
theorem sampleBytes_ok {bs rest : List Byte} {i : Instr} (h : sampleBytes bs = .ok (i, rest)) :
    ∃ raw gt, i = .sampleDone raw gt ∧ bs = i.operandBytes ++ rest := by
  unfold sampleBytes at h
  split at h
  next lo hi bs =>
    obtain ⟨gt, rfl, rfl⟩ := oneByte_ok h
    have hlo : (hi ++ lo).extractLsb' 0 8 = lo := BitVec.extractLsb'_append_eq_right
    have hhi : (hi ++ lo).extractLsb' 8 8 = hi := BitVec.extractLsb'_append_eq_left
    exact ⟨_, gt, rfl, by simp only [Instr.operandBytes, hlo, hhi, List.cons_append, List.nil_append]⟩
  next => cases h

/-- An instruction's operand bytes decode to the instruction (R83). -/
theorem operands_operandBytes (i : Instr) (rest : List Byte) :
    i.opcode.operands (i.operandBytes ++ rest) = .ok (i, rest) := by
  cases i with
  | sampleDone raw gt => exact sampleBytes_operandBytes raw gt rest
  | cycleEnd gt => exact oneByte_setWidth (by decide) _ gt rest
  | btnEdge btn => exact oneByte_setWidth (by decide) _ btn rest
  | troubleEdgeGen m => exact oneByte_setWidth (by decide) _ m rest
  | troubleRestoreGen m => exact oneByte_setWidth (by decide) _ m rest
  | alarmEdge m => exact oneByte_byte _ m rest
  | troubleEdgeSlc m => exact oneByte_byte _ m rest
  | troubleEdgeNac m => exact oneByte_byte _ m rest
  | troubleRestoreSlc m => exact oneByte_byte _ m rest
  | troubleRestoreNac m => exact oneByte_byte _ m rest
  | _ => rfl

/-- Settles O2: the word names the operation, and its operand bytes are read back. -/
theorem decodingAnEncodedOperationGivesItBack : Obligations.DecodingAnEncodedOperationGivesItBack :=
  fun i rest => (decode_word i _).trans (operands_operandBytes i rest)

/-- The operand bytes that an operation reads are those of the instruction it gives (R83). -/
theorem operands_ok {o : Opcode} {bs rest : List Byte} {i : Instr} (h : o.operands bs = .ok (i, rest)) :
    i.opcode = o ∧ bs = i.operandBytes ++ rest := by
  cases o
  case sampleDone =>
    obtain ⟨raw, gt, rfl, hbs⟩ := sampleBytes_ok h
    exact ⟨rfl, hbs⟩
  case cycleEnd | btnEdge | troubleEdgeGen | troubleRestoreGen =>
    obtain ⟨v, rfl, rfl⟩ := oneByte_ok h
    exact ⟨rfl, rfl⟩
  case alarmEdge | troubleEdgeSlc | troubleEdgeNac | troubleRestoreSlc | troubleRestoreNac =>
    obtain ⟨m, rfl, rfl⟩ := oneByte_ok h
    exact ⟨rfl, by rw [BitVec.setWidth_eq]; rfl⟩
  all_goals
    cases h
    exact ⟨rfl, rfl⟩

/-- Settles O3: the first byte is the word of the instruction read, the next ones its operand bytes. -/
theorem decodedBytesAreTheEncoding : Obligations.DecodedBytesAreTheEncoding := by
  intro bs rest i h
  cases bs with
  | nil => cases h
  | cons w bs =>
    simp only [decode] at h
    split at h
    next o ho =>
      obtain ⟨rfl, rfl⟩ := operands_ok h
      rw [← word_of_ofWord ho, encode, List.cons_append]
    next => cases h

/-- Settles O1, by running the decoder on the seven words. -/
theorem writtenOutWordsDecode : Obligations.WrittenOutWordsDecode := by
  unfold Obligations.WrittenOutWordsDecode
  decide

end Sys2Proof

namespace Sys2Proof.Machine

/-! ### The step of an operation-level run (R83, R85, R88) -/

theorem decodeFor_ok {c : Config} {bs rest : List Byte} {i : Instr} (hd : decode bs = .ok (i, rest))
    (hw : i.wellFormed c = true) : decodeFor c bs = .ok (i, rest) := by
  simp only [decodeFor, hd, hw, if_true]

theorem decodeFor_illFormed {c : Config} {bs rest : List Byte} {i : Instr} (hd : decode bs = .ok (i, rest))
    (hw : i.wellFormed c = false) : decodeFor c bs = .error .operandBit := by
  simp only [decodeFor, hd, hw, Bool.false_eq_true, if_false]

theorem decodeFor_error {c : Config} {bs : List Byte} {e : DecodeError} (hd : decode bs = .error e) :
    decodeFor c bs = .error e := by
  simp only [decodeFor, hd]

/-- Settles O9: the decoder's verdict is the operation, and `step_operations` runs it. -/
theorem stepRunsTheDecodedOperation : Obligations.StepRunsTheDecodedOperation := by
  intro s bytes rest i hl hs hd hw
  simp only [step_operations hs hl, decodeFor_ok hd hw, State.withDriver]

/-- A step of an operation-level run is refused for the decoder's rejection and for nothing else (R240, R241). -/
theorem step_operations_refused_iff {s : State} {bytes : List Byte} (hs : s.driver = .operations bytes)
    (hl : s.cfg.Legal) {r : Refusal} :
    step s = .refused r ↔ ∃ e, decodeFor s.cfg bytes = .error e ∧ refusalOf e = r := by
  rw [step_operations hs hl]
  rcases decodeFor s.cfg bytes with e | ⟨i, rest⟩
  · simp
  · obtain ⟨t, ht⟩ := exec_answers_next i (s.withDriver (.operations rest))
    simp [ht]

/-- The 25 assigned words, in the order of R82. -/
theorem ofWord_eq_none_iff (w : Byte) : Opcode.ofWord w = none ↔
    w ∉ ([0x00, 0x04, 0x08, 0x0C, 0x10, 0x40, 0x44, 0x48, 0x4C, 0x50] ++
      [0x80, 0x84, 0x85, 0x86, 0x88, 0x89, 0x8A, 0x8C, 0x90, 0x94, 0x98, 0x9C, 0xA0, 0xC0, 0xC4] : List Byte) := by
  revert w
  decide

/-- A one-byte operand is never the ground for a reserved word (R85). -/
theorem oneByte_ne_reservedWord {n : Nat} {mk : BitVec n → Instr} {bs : List Byte} {v : Byte} :
    oneByte n mk bs ≠ .error (.reservedWord v) := by
  unfold oneByte
  split
  · simp
  · split <;> simp

/-- The operands of an assigned word are never the ground for a reserved word (R85). -/
theorem operands_ne_reservedWord (o : Opcode) (bs : List Byte) (v : Byte) :
    o.operands bs ≠ .error (.reservedWord v) := by
  cases o
  case sampleDone =>
    show sampleBytes bs ≠ _
    unfold sampleBytes
    split
    · exact oneByte_ne_reservedWord
    · simp
  case cycleEnd | btnEdge | alarmEdge | troubleEdgeSlc | troubleEdgeNac | troubleEdgeGen | troubleRestoreSlc |
      troubleRestoreNac | troubleRestoreGen =>
    exact oneByte_ne_reservedWord
  all_goals exact nofun

/-- The decoder rejects a word as reserved exactly when it is not assigned (R85 (a)), under any configuration. -/
theorem decodeFor_reservedWord_iff (c : Config) (w : Byte) (rest : List Byte) :
    decodeFor c (w :: rest) = .error (.reservedWord w) ↔ Opcode.ofWord w = none := by
  constructor
  · intro h
    cases ho : Opcode.ofWord w with
    | none => rfl
    | some o =>
      have hd : decode (w :: rest) = o.operands rest := by simp only [decode, ho]
      rcases hr : o.operands rest with e | ⟨i, tail⟩
      · rw [decodeFor_error (hd.trans hr), ← hr] at h
        exact absurd h (operands_ne_reservedWord o rest w)
      · simp only [decodeFor, hd, hr] at h
        split at h <;> cases h
  · intro ho
    exact decodeFor_error (by simp only [decode, ho])

/-- Only a reserved word is refused as one (R241 code 3). -/
theorem refusalOf_eq_refuseOpword_iff {e : DecodeError} {w : Byte} :
    refusalOf e = .refuseOpword w ↔ e = .reservedWord w := by
  cases e <;> simp [refusalOf]

/-- Settles O4: the step is refused so for exactly one rejection of the decoder, which is for exactly these words. -/
theorem reservedOperationWordsAreRefused : Obligations.ReservedOperationWordsAreRefused := by
  intro s w rest hl hs
  simp only [step_operations_refused_iff hs hl, refusalOf_eq_refuseOpword_iff, exists_eq_right,
    decodeFor_reservedWord_iff, ofWord_eq_none_iff]

/-! ### Operand bits above their width (R83, R85 (b)) -/

theorem narrow_eq_none {n : Nat} {b : Byte} (h : 2 ^ n ≤ b.toNat) : narrow n b = none :=
  if_neg (Nat.not_lt.mpr h)

theorem oneByte_operandBit {n : Nat} {mk : BitVec n → Instr} {b : Byte} (rest : List Byte) (h : 2 ^ n ≤ b.toNat) :
    oneByte n mk (b :: rest) = .error .operandBit := by
  simp only [oneByte, narrow_eq_none h]

theorem decide_fits_eq_false {m : Mask} {n : Nat} (h : 2 ^ n ≤ m.toNat) : decide (Mask.Fits m n) = false :=
  decide_eq_false (Nat.not_lt.mpr h)

/-- A sample's two bytes or its `gt` byte above their width are rejected (R83). -/
theorem decodeFor_sampleDone {c : Config} {lo hi b : Byte} (rest : List Byte)
    (h : 2 ^ c.adcW ≤ hi.toNat * 256 + lo.toNat ∨ 2 ≤ b.toNat) :
    decodeFor c (0x48 :: lo :: hi :: b :: rest) = .error .operandBit := by
  by_cases hb : 2 ≤ b.toNat
  · exact decodeFor_error (oneByte_operandBit rest hb)
  · have hraw : (hi ++ lo).toNat = hi.toNat * 256 + lo.toNat := by
      rw [BitVec.toNat_append, ← Nat.shiftLeft_add_eq_or_of_lt lo.isLt, Nat.shiftLeft_eq]
    have hd : decode (0x48 :: lo :: hi :: b :: rest) = .ok (.sampleDone (hi ++ lo) (b.setWidth 1), rest) := by
      show oneByte 1 _ (b :: rest) = _
      simp only [oneByte, narrow, Nat.not_le.mp hb, if_true, pow_one]
    refine decodeFor_illFormed hd (decide_eq_false ?_)
    omega

/-- Settles O5: an operand of fixed width is rejected as it is read, one of configured width by its well-formedness. -/
theorem operandBitsAboveTheirWidthAreRefused : Obligations.OperandBitsAboveTheirWidthAreRefused := by
  intro s w lo hi b rest hl h
  have hread (i : Instr) := decodingAnEncodedOperationGivesItBack i rest
  suffices ∃ bytes, s.driver = .operations bytes ∧ decodeFor s.cfg bytes = .error .operandBit by
    obtain ⟨bytes, hs, hd⟩ := this
    exact (step_operations_refused_iff hs hl).mpr ⟨_, hd, rfl⟩
  rcases h with ⟨hs, h⟩ | ⟨hs, h⟩
  · refine ⟨_, hs, ?_⟩
    rcases h with ⟨rfl | rfl | rfl, hb⟩ | ⟨rfl | rfl, hb⟩ | ⟨rfl | rfl | rfl, hb⟩ | ⟨rfl, hb⟩
    · exact decodeFor_illFormed (hread (.alarmEdge b)) (decide_fits_eq_false hb)
    · exact decodeFor_illFormed (hread (.troubleEdgeSlc b)) (decide_fits_eq_false hb)
    · exact decodeFor_illFormed (hread (.troubleRestoreSlc b)) (decide_fits_eq_false hb)
    · exact decodeFor_illFormed (hread (.troubleEdgeNac b)) (decide_fits_eq_false hb)
    · exact decodeFor_illFormed (hread (.troubleRestoreNac b)) (decide_fits_eq_false hb)
    all_goals exact decodeFor_error (oneByte_operandBit rest hb)
  · exact ⟨_, hs, decodeFor_sampleDone rest h⟩

end Sys2Proof.Machine
end

section
/-! Cycle-level encodings (30_encoding.md R84 to R87, R91): the stimulus word, the packed output words and the tick
counter. -/

namespace Sys2Proof

/-! ### The stimulus word (R84, R85 (c)) -/

/-- The inputs read from their bits of a stimulus word, whatever its other bits are (R84). -/
def inputOf (w : StimulusWord) : Input where
  rst := w.getLsbD 0
  tick := w.getLsbD 1
  adcValid := w.getLsbD 2
  btnReset := w.getLsbD 3
  btnAck := w.getLsbD 4
  btnSilence := w.getLsbD 5
  btnFunction := w.getLsbD 6
  gtIn := w.extractLsb' 7 1
  adcData := w.extractLsb' 8 16

/-- The decoder's two checks of a stimulus word (R84, R85 (c)), and what it reads from a word that passes them. -/
theorem decodeStimulus_eq_some_iff {c : Config} {w : StimulusWord} {inp : Input} :
    decodeStimulus c w = some inp ↔ w.extractLsb' 24 8 = 0 ∧ inp.WellFormed c ∧ inputOf w = inp := by
  have hdef : decodeStimulus c w =
      if w.extractLsb' 24 8 = 0 ∧ (inputOf w).WellFormed c then some (inputOf w) else none := rfl
  rw [hdef, Option.ite_none_right_eq_some, Option.some.injEq, and_assoc]
  exact and_congr_right fun _ => and_congr_left fun h => by rw [h]

/-- A packed cycle's inputs are read back (R84). -/
theorem inputOf_encodeStimulus (inp : Input) : inputOf (encodeStimulus inp) = inp := by
  have hgt : (encodeStimulus inp).extractLsb' 7 1 = inp.gtIn := by
    simp (disch := decide) only [encodeStimulus, BitVec.extractLsb'_append_eq_of_le]
    exact BitVec.extractLsb'_append_eq_right
  have hdata : (encodeStimulus inp).extractLsb' 8 16 = inp.adcData := by
    simp (disch := decide) only [encodeStimulus, BitVec.extractLsb'_append_eq_of_le]
    exact BitVec.extractLsb'_append_eq_right
  simp only [inputOf, hgt, hdata]
  simp only [encodeStimulus, BitVec.getLsbD_append, BitVec.getLsbD_ofBool]
  simp

/-- A packed word's bits 31:24 are 0 (R84). -/
theorem extractLsb'_encodeStimulus (inp : Input) : (encodeStimulus inp).extractLsb' 24 8 = 0 := by
  simp (disch := decide) only [encodeStimulus, BitVec.extractLsb'_append_eq_of_le]
  rfl

theorem ofBool_getLsbD {w : Nat} (v : BitVec w) (k : Nat) : BitVec.ofBool (v.getLsbD k) = v.extractLsb' k 1 := by
  ext i hi
  simp [Nat.lt_one_iff.mp hi]

/-- A word with bits 31:24 at 0 is the packing of the inputs at its bits: the packed fields are adjacent (R84). -/
theorem encodeStimulus_inputOf {w : StimulusWord} (h : w.extractLsb' 24 8 = 0) : encodeStimulus (inputOf w) = w :=
  calc encodeStimulus (inputOf w)
    _ = w.extractLsb' 24 8 ++ w.extractLsb' 8 16 ++ w.extractLsb' 7 1 ++ w.extractLsb' 6 1 ++ w.extractLsb' 5 1 ++
        w.extractLsb' 4 1 ++ w.extractLsb' 3 1 ++ w.extractLsb' 2 1 ++ w.extractLsb' 1 1 ++ w.extractLsb' 0 1 := by
      simp only [encodeStimulus, inputOf, ofBool_getLsbD, h, BitVec.ofNat_eq_ofNat]
    _ = w.extractLsb' 0 32 := by simp only [BitVec.extractLsb'_append_extractLsb'_eq_extractLsb']
    _ = w := BitVec.extractLsb'_eq_self

/-- Settles O6: reading the fields and packing them are inverse on words whose bits 31:24 are 0. -/
theorem stimulusWordsRoundTrip : Obligations.StimulusWordsRoundTrip := by
  refine fun c => ⟨fun inp h => ?_, fun w inp h => ?_⟩
  · exact decodeStimulus_eq_some_iff.mpr ⟨extractLsb'_encodeStimulus inp, h, inputOf_encodeStimulus inp⟩
  · obtain ⟨hw, hinp, rfl⟩ := decodeStimulus_eq_some_iff.mp h
    exact ⟨encodeStimulus_inputOf hw, hinp⟩

theorem adcW_le {c : Config} (hc : c.Legal) : c.adcW ≤ 16 := hc.2.2.1.2

/-- The two checks together bound the word: its bits from 8 + ADC_W up are 0 (R85 (c)). -/
theorem decodeStimulus_eq_none_iff_le {c : Config} (hc : c.Legal) (w : StimulusWord) :
    decodeStimulus c w = none ↔ 2 ^ (8 + c.adcW) ≤ w.toNat := by
  have hlow : 2 ^ c.adcW ≤ 2 ^ 16 := Nat.pow_le_pow_right (by decide) (adcW_le hc)
  have hpow : 2 ^ (8 + c.adcW) = 256 * 2 ^ c.adcW := Nat.pow_add 2 8 _
  have hw := w.isLt
  rw [decodeStimulus, ite_eq_right_iff]
  simp only [reduceCtorEq, imp_false, ← BitVec.toNat_inj, BitVec.extractLsb'_toNat, Nat.shiftRight_eq_div_pow, hpow,
    BitVec.ofNat_eq_ofNat, BitVec.toNat_ofNat]
  omega

theorem decodeStimulus_eq_none_iff {c : Config} (hc : c.Legal) (w : StimulusWord) :
    decodeStimulus c w = none ↔ ∃ k, 8 + c.adcW ≤ k ∧ k < 32 ∧ w.getLsbD k = true := by
  have hadc := adcW_le hc
  rw [decodeStimulus_eq_none_iff_le hc, BitVec.le_toNat_iff_getLsbD_eq_true (by omega)]
  constructor
  · rintro ⟨k, hk⟩
    exact ⟨_, Nat.le_add_right _ k, BitVec.lt_of_getLsbD hk, hk⟩
  · rintro ⟨k, hle, -, hk⟩
    exact ⟨k - (8 + c.adcW), by rwa [Nat.add_sub_cancel' hle]⟩

end Sys2Proof

namespace Sys2Proof.Machine

/-- Settles O7: the reserved bits are those of a word that is too large, and the fields are read bit by bit. -/
theorem stimulusBitsStandWhereTheRuleSays : Obligations.StimulusBitsStandWhereTheRuleSays := by
  intro c w hc
  refine ⟨decodeStimulus_eq_none_iff hc w, fun inp h => ?_, ?_⟩
  · obtain ⟨-, -, rfl⟩ := decodeStimulus_eq_some_iff.mp h
    refine ⟨rfl, rfl, rfl, rfl, rfl, rfl, rfl, by simp [inputOf], fun k hk => by simp [inputOf, hk]⟩
  · rintro s x rest rfl hs
    rw [step_cycles hs, ← decodeStimulus_eq_none_iff hc w]
    constructor
    · intro h
      obtain ⟨-, hnone, -⟩ := runStimulus_refuseStimulus h
      exact hnone
    · intro hnone
      exact runStimulus_undecoded (x := ⟨x, w⟩) hc hnone

/-! ### The output words (R86, R87) -/

/-- Settles O8: a packed word's bits are those of the parts appended, or its lanes. -/
theorem outputWordsShowTheOutputRegisters : Obligations.OutputWordsShowTheOutputRegisters := by
  intro c r
  have hnac (j : Nat) (hj : j < 8) : (nacWord c r).getLsbD j = (decide (j < c.nNac) && r.oNac.getLsbD j) := by
    simp only [nacWord, getLsbD_lanes, hj, and_true]
  simp only [uiWord, BitVec.getLsbD_append, BitVec.getLsbD_ofBool]
  simpa using hnac

/-! ### The tick counter (R91 (a), R273) -/

/-- A halted block stays halted while no cycle resets it (R254). -/
theorem runCycles_halted {s : State} (hh : s.regs.halted = true) {inps : List Input}
    (hrst : ∀ inp ∈ inps, inp.rst = false) : (s.runCycles inps).regs.halted = true := by
  induction inps generalizing s with
  | nil => exact hh
  | cons inp inps ih =>
    obtain ⟨h, hrst⟩ := List.forall_mem_cons.mp hrst
    exact ih (by rw [State.cycle_regs, cycle_halted _ _ _ _ h hh, hh]) hrst

theorem phaseA_tsC_toNat (tick : Bool) (r : Regs) : (phaseA tick r).tsC.toNat = (r.tsC.toNat + tick.toNat) % 256 := by
  cases tick
  · exact (Nat.mod_eq_of_lt r.tsC.isLt).symm
  · simp

/-- A running block counts the tick of its cycle, also when that tick halts it (R66, R101). -/
theorem cycle_tsC (c : Config) (free : BitVec 16) {inp : Input} {r : Regs} (hrst : inp.rst = false)
    (hh : r.halted = false) : (r.cycle c free inp).tsC.toNat = (r.tsC.toNat + inp.tick.toNat) % 256 := by
  rcases cycle_cases c free inp r with ⟨h, -⟩ | ⟨-, h, -⟩ | ⟨-, -, -, hr⟩ | ⟨-, -, -, hr⟩
  · exact absurd (hrst.symm.trans h) Bool.false_ne_true
  · exact absurd (hh.symm.trans h) Bool.false_ne_true
  · rw [hr, phaseA_tsC_toNat, clearStart_tsC]
  · rw [hr, mainPass_tsC, phaseB_tsC, phaseA_tsC_toNat, clearStart_tsC]

theorem tickTotal_cons (inp : Input) (inps : List Input) :
    tickTotal (inp :: inps) = inp.tick.toNat + tickTotal inps := by
  cases h : inp.tick <;> simp [tickTotal, h, Nat.add_comm]

/-- Settles O52, by induction on the cycles: a block that runs at the end ran in every cycle before. -/
theorem tickCounterCountsTickCycles : Obligations.TickCounterCountsTickCycles := by
  intro s inps hrst hrun
  induction inps generalizing s with
  | nil => exact (Nat.mod_eq_of_lt s.regs.tsC.isLt).symm
  | cons inp inps ih =>
    have hh : s.regs.halted = false := by
      by_contra hh
      rw [runCycles_halted (Bool.not_eq_false _ ▸ hh) hrst] at hrun
      exact absurd hrun (by decide)
    obtain ⟨h, hrst⟩ := List.forall_mem_cons.mp hrst
    rw [State.runCycles_cons, ih _ hrst hrun, State.cycle_regs, cycle_tsC _ _ h hh, tickTotal_cons]
    omega

end Sys2Proof.Machine
end

section
/-! Unit tick_scheduler_divider (40_tick_scheduler_divider.md R101 to R107): each operation's effect, the tick at which a
cycle runs it, and the length of the reset countdown. -/

namespace Sys2Proof.Machine

/-- Settles O17: the instruction is `tickCount`, and phase A counts its tick. -/
theorem tickCountAdvancesModulo256 : Obligations.TickCountAdvancesModulo256 := by
  refine ⟨rfl, fun s h => ⟨_, exec_running .tickCount h, ?_, rfl⟩, fun r => ⟨rfl, phaseA_tsC_toNat true r⟩⟩
  simp [effect, tickCount]

/-! ### DIV2 and RC_EXPIRE (R102, R103) -/

section
variable {r : Regs}

theorem div2_of_tsRc_eq_zero (h : r.tsRc = 0) : div2 r = { r with tsFlash := !r.tsFlash } := by
  simp [div2_eq, h]

theorem div2_of_tsRc_eq_one (h : r.tsRc = 1) :
    div2 r = { r with tsFlash := !r.tsFlash, tsRc := 0, oSysResetReq := true, halted := true } := by
  simp [div2_eq, h]

theorem div2_of_one_lt_tsRc (h : 1 < r.tsRc.toNat) :
    div2 r = { r with tsFlash := !r.tsFlash, tsRc := r.tsRc - 1 } := by
  have h0 : r.tsRc ≠ 0 := by bv_omega
  have h1 : (r.tsRc == 1) = false := beq_eq_false_iff_ne.mpr (by bv_omega)
  simp only [div2_eq, if_neg h0, h1, Bool.false_or]

/-- DIV2 halts a running block exactly when it takes the countdown from 1 to 0 (R103). -/
theorem div2_halted_iff (h : r.halted = false) : (div2 r).halted = true ↔ r.tsRc = 1 := by
  simp [div2_eq, h]

/-- The flasher phase toggles on every second tick: DIV4 and DIV8 leave it (R102). -/
theorem phaseA_tick_tsFlash (r : Regs) :
    (phaseA true r).tsFlash = if (r.tsC.toNat + 1) % 2 = 0 then !r.tsFlash else r.tsFlash := by
  have hdiv2 : (tickToDiv2 r).tsFlash = if (r.tsC.toNat + 1) % 2 = 0 then !r.tsFlash else r.tsFlash := by
    simp only [tickToDiv2, Regs.apply_onlyIf _ Regs.tsFlash, div2_eq, tickCount, beq_iff_eq,
      tsC_succ_mod (by decide : 2 ∣ 256)]
  rw [← hdiv2, phaseA, Regs.onlyIf_true, tickOps_eq]
  simp only [apply_ite Regs.tsFlash, Regs.apply_onlyIf _ Regs.tsFlash, div4, div8, ite_self]

/-- Settles O18, by the three cases of the countdown. -/
theorem div2TogglesTheFlasherAndCountsDown : Obligations.Div2TogglesTheFlasherAndCountsDown := by
  refine ⟨rfl, fun s h => ?_, phaseA_tick_tsFlash⟩
  have hexec : exec .div2 s = .next { s with regs := div2 s.regs } := exec_running .div2 h
  refine ⟨fun h0 => ?zero, fun h1 => ?one, fun hlt => ?more⟩
  case zero => rw [hexec, div2_of_tsRc_eq_zero h0]
  case one => rw [hexec, div2_of_tsRc_eq_one h1]
  case more =>
    rw [div2_of_one_lt_tsRc hlt] at hexec
    refine ⟨_, hexec, ?_, rfl⟩
    show (s.regs.tsRc - 1).toNat = s.regs.tsRc.toNat - 1
    bv_omega

/-- The cycle whose tick expires the countdown is phase A up to DIV2 (R67, R103). -/
theorem cycle_of_tickExpires (c : Config) (free : BitVec 16) {inp : Input} (hh : r.halted = false)
    (hrst : inp.rst = false) (ht : inp.tick = true) (heven : (r.tsC.toNat + 1) % 2 = 0) (hrc : r.tsRc = 1) :
    r.cycle c free inp = { r with tsC := r.tsC + 1, tsFlash := !r.tsFlash, tsRc := 0, oSysResetReq := true,
                                  halted := true, oAdcStart := false } := by
  have hx : tickExpires r = true := by simp [tickExpires, heven, hrc]
  rw [cycle_expires c free inp r hrst hh ht hx, phaseA_tick_eq r.clearStart hh, tickExpires_clearStart, hx]
  simp [Regs.clearStart, heven, hrc]

/-- Settles O19, by `div2_halted_iff` and `cycle_of_tickExpires`. -/
theorem rcExpireRequestsTheResetAndHalts : Obligations.RcExpireRequestsTheResetAndHalts :=
  ⟨rfl, fun _ h => ⟨exec_running .rcExpire h, _, exec_running .div2 h, div2_halted_iff h⟩,
    fun c free _ _ => cycle_of_tickExpires c free⟩

/-! ### DIV4 and DIV8 (R104, R105) -/

/-- A tick whose new TS_C is a multiple of an even `n` expires the countdown exactly when TS_RC is 1 (R102). -/
theorem tick_and_not_tickExpires_iff {n : Nat} (hn : 2 ∣ n) :
    (r.tsC.toNat + 1) % n = 0 ∧ tickExpires r = false ↔ (r.tsC.toNat + 1) % n = 0 ∧ r.tsRc ≠ 1 := by
  refine and_congr_right fun h => ?_
  have heven : (r.tsC.toNat + 1) % 2 = 0 := Nat.mod_eq_zero_of_dvd (hn.trans (Nat.dvd_of_mod_eq_zero h))
  simp [tickExpires, heven]

end

/-- Settles O20: phase A runs DIV4 unless DIV2 has halted the block. -/
theorem div4TogglesTheMarchTimePhase : Obligations.Div4TogglesTheMarchTimePhase := by
  refine ⟨rfl, fun s h => exec_running .div4 h, fun r h => ?_⟩
  simp only [phaseA_tick_eq r h, tick_and_not_tickExpires_iff (by decide : 2 ∣ 4)]

/-- Settles O21: phase A runs DIV8 unless DIV2 has halted the block. -/
theorem div8AdvancesTemporal3AndRequestsAScan : Obligations.Div8AdvancesTemporal3AndRequestsAScan := by
  refine ⟨rfl, fun s h => ⟨_, exec_running .div8 h, ?_, rfl⟩, fun r h => ?_⟩
  · simp [effect, div8]
  · have hreq : (((r.tsC.toNat + 1) % 8 == 0 && !tickExpires r) || r.scanReq) =
        if (r.tsC.toNat + 1) % 8 = 0 ∧ tickExpires r = false then true else r.scanReq := by
      cases tickExpires r <;> by_cases h8 : (r.tsC.toNat + 1) % 8 = 0 <;> simp [h8]
    simp only [phaseA_tick_eq r h, hreq, tick_and_not_tickExpires_iff (by decide : 2 ∣ 8), and_self]

/-! ### The length of the countdown (R107) -/

/-- The ticks until the countdown expires: 0 when it is not armed (R107). -/
def ticksLeft (r : Regs) : Nat := 2 * r.tsRc.toNat - r.tsC.toNat % 2

theorem ticksLeft_pos {r : Regs} (h : r.tsRc ≠ 0) : 0 < ticksLeft r := by
  have : 0 < r.tsRc.toNat := by bv_omega
  unfold ticksLeft
  omega

/-- The tick expires the countdown exactly when it is the last one (R102, R107). -/
theorem tickExpires_iff_ticksLeft {r : Regs} : tickExpires r = true ↔ ticksLeft r = 1 := by
  simp only [tickExpires, ticksLeft, Bool.and_eq_true, beq_iff_eq, ← BitVec.toNat_inj, BitVec.ofNat_eq_ofNat,
    BitVec.toNat_ofNat]
  omega

/-- Phase A takes its tick off the countdown: DIV2 takes 1 off TS_RC at every second tick, and TS_C's lowest bit counts
the tick between (R102). -/
theorem phaseA_ticksLeft (tick : Bool) {r : Regs} (h : r.halted = false) :
    ticksLeft (phaseA tick r) = ticksLeft r - tick.toNat := by
  cases tick with
  | false => rfl
  | true =>
    simp only [ticksLeft, phaseA_tick_eq r h, tsC_succ_mod (by decide : 2 ∣ 256), Bool.toNat_true]
    by_cases hrc : r.tsRc = 0
    · simp [hrc]
    · have hdec : (r.tsRc - 1).toNat = r.tsRc.toNat - 1 := by bv_omega
      simp only [hrc, ne_eq, not_false_eq_true, and_true]
      split_ifs <;> omega

/-- Without a press edge of the reset button, a pass leaves the countdown (R69, R176). -/
theorem mainPass_tsRc_of_no_press (c : Config) {inp : Input} (e : Strobes) {r : Regs}
    (hb : inp.btnReset = true → r.btnPrev.getLsbD 0 = true) : (mainPass c inp e r).tsRc = r.tsRc := by
  have hpress : ¬ (pressEdges (Input.btn inp) r).getLsbD 0 = true := by
    rw [pressEdges, getLsbD_rise, (getLsbD_btn inp).1]
    simpa using hb
  rw [mainPass_tsRc, if_neg hpress]

section
variable (c : Config) (free : BitVec 16) {inp : Input} {r : Regs}

/-- A cycle of a running block takes its tick off the countdown, unless the reset button is pressed anew. -/
theorem cycle_ticksLeft (hrst : inp.rst = false) (hh : r.halted = false)
    (hb : inp.btnReset = true → r.btnPrev.getLsbD 0 = true) :
    ticksLeft (r.cycle c free inp) = ticksLeft r - inp.tick.toNat := by
  have ha : ticksLeft (phaseA inp.tick r.clearStart) = ticksLeft r - inp.tick.toNat := phaseA_ticksLeft inp.tick hh
  rcases cycle_cases c free inp r with ⟨h, -⟩ | ⟨-, h, -⟩ | ⟨-, -, -, hr⟩ | ⟨-, -, -, hr⟩
  · exact absurd (hrst.symm.trans h) Bool.false_ne_true
  · exact absurd (hh.symm.trans h) Bool.false_ne_true
  · rw [hr, ha]
  · rw [hr, ← ha]
    simp only [ticksLeft, mainPass_tsC, phaseB_tsC]
    rw [mainPass_tsRc_of_no_press c _ (by simpa using hb), phaseB_tsRc]

/-- A cycle that does not end in phase A samples the buttons (R139). -/
theorem cycle_btnPrev (hrst : inp.rst = false) (hh : r.halted = false) (hx : (inp.tick && tickExpires r) = false) :
    (r.cycle c free inp).btnPrev = Input.btn inp := by
  rw [cycle_runs c free inp r hrst hh hx, mainPass_btnPrev]

end

/-- A run without reset or new reset press halts the block exactly when it has the ticks that were left. -/
theorem runCycles_halted_iff {s : State} {inps : List Input} (hh : s.regs.halted = false)
    (hpos : 0 < ticksLeft s.regs) (hrst : ∀ inp ∈ inps, inp.rst = false)
    (hpress : NoResetPress (s.regs.btnPrev.getLsbD 0) inps) :
    (s.runCycles inps).regs.halted = true ↔ ticksLeft s.regs ≤ tickTotal inps := by
  induction inps generalizing s with
  | nil => exact iff_of_false (by simp [hh]) (Nat.not_le.mpr hpos)
  | cons inp inps ih =>
    obtain ⟨hrst, hrsts⟩ := List.forall_mem_cons.mp hrst
    obtain ⟨hb, hpress⟩ := hpress
    have hhalt : (s.cycle inp).regs.halted = (inp.tick && tickExpires s.regs) := cycle_halted_iff _ _ _ _ hrst hh
    rw [State.runCycles_cons, tickTotal_cons]
    cases hx : inp.tick && tickExpires s.regs with
    | true =>
      obtain ⟨ht, hlast⟩ := Bool.and_eq_true_iff.mp hx
      refine iff_of_true (runCycles_halted (hhalt.trans hx) hrsts) ?_
      rw [tickExpires_iff_ticksLeft.mp hlast, ht]
      exact Nat.le_add_right 1 _
    | false =>
      have hleft : ticksLeft (s.cycle inp).regs = ticksLeft s.regs - inp.tick.toNat := cycle_ticksLeft _ _ hrst hh hb
      have hbtn : (s.cycle inp).regs.btnPrev = Input.btn inp := cycle_btnPrev _ _ hrst hh hx
      have hmore : inp.tick.toNat < ticksLeft s.regs := by
        cases ht : inp.tick with
        | false => exact hpos
        | true =>
          have hlast : ticksLeft s.regs ≠ 1 := fun h => by simp [ht, tickExpires_iff_ticksLeft.mpr h] at hx
          exact Nat.lt_of_le_of_ne hpos hlast.symm
      rw [ih (hhalt.trans hx) (by omega) hrsts (by rwa [hbtn, (getLsbD_btn inp).1]), hleft]
      omega

/-- Settles O23, by `runCycles_halted_iff`. -/
theorem countdownExpiresAfterItsTicks : Obligations.CountdownExpiresAfterItsTicks :=
  fun _ _ hh hrc => runCycles_halted_iff hh (ticksLeft_pos hrc)

end Sys2Proof.Machine
end

section
/-! Unit debounce_edge_detector (41_debounce_edge_detector.md R132 to R139): each operation's effect and when a cycle runs
it, the length of the settling delay, the references of the edge detection, and ignored conversion results. -/

namespace Sys2Proof.Machine

/-! ### BTN_EDGE (R139) -/

/-- Settles O34: a press edge is a rise of the button levels, and a pass stores the levels of its inputs. -/
theorem buttonEdgesAreNewPresses : Obligations.ButtonEdgesAreNewPresses := by
  refine ⟨fun _ => rfl, fun s btn h => exec_running (.btnEdge btn) h, fun btn r k => ?press, fun c inp e r => ?pass⟩
  case press => simp [pressEdges]
  case pass =>
    rw [mainPass_btnPrev]
    exact getLsbD_btn inp

/-! ### The two halves of phase B, state by state of the scanner (R66, R68) -/

section
variable (c : Config) (free : BitVec 16) {inp : Input} {r : Regs}

theorem sampleOrSettle_of_settling (h : r.scState = .settling) : sampleOrSettle c free inp r = settleStep free r := by
  simp [sampleOrSettle, sampleReady, h]

theorem sampleOrSettle_of_converting (h : r.scState = .converting) :
    sampleOrSettle c free inp r = if inp.adcValid then sampleDone c inp.adcData inp.gtIn r else r := by
  simp [sampleOrSettle, sampleReady, h, Regs.onlyIf]

theorem sampleOrSettle_scCh (inp : Input) (r : Regs) : (sampleOrSettle c free inp r).scCh = r.scCh := by
  unfold sampleOrSettle
  split_ifs
  · rw [sampleDone_eq]
  · rw [Regs.apply_onlyIf r Regs.scCh, settleStep_eq, ite_self]

/-- Phase B ends with SCAN_START when the scanner was IDLE, or a sample completes, and a scan is requested. -/
theorem phaseB_eq (inp : Input) (r : Regs) : phaseB c free inp r =
    if (r.scState = .idle ∨ r.scState = .converting ∧ inp.adcValid = true) ∧ r.scanReq = true then
      scanStart c (sampleOrSettle c free inp r)
    else sampleOrSettle c free inp r := by
  simp only [phaseB, Regs.onlyIf, sampleOrSettle_idle, sampleOrSettle_scanReq, Bool.and_eq_true, Bool.or_eq_true,
    sampleReady_iff, beq_iff_eq, or_comm]

/-- While SETTLING, phase B is SETTLE_STEP alone: it never makes the scanner IDLE. -/
theorem phaseB_of_settling (h : r.scState = .settling) : phaseB c free inp r = settleStep free r := by
  rw [phaseB_eq, if_neg (by simp [h]), sampleOrSettle_of_settling c free h]

end

/-! ### SCAN_START (R132) -/

/-- Settles O24, by `phaseB_eq`. -/
theorem scanStartSelectsTheNextChannel : Obligations.ScanStartSelectsTheNextChannel := by
  refine ⟨rfl, fun s h hl => ⟨_, exec_running .scanStart h, ?settle, rfl⟩, fun c free inp r =>
    ⟨fun hb => ?starts, fun hb => ?stays⟩⟩
  case settle =>
    obtain ⟨-, -, -, ⟨-, hle⟩, -⟩ := hl
    exact (BitVec.toNat_ofNat ..).trans (Nat.mod_eq_of_lt (Nat.lt_succ_of_le hle))
  case starts =>
    rw [phaseB_eq, if_pos hb]
    exact ⟨rfl, rfl, rfl⟩
  case stays =>
    rw [phaseB_eq, if_neg hb]
    exact ⟨sampleOrSettle_scanReq c free inp r, sampleOrSettle_scCh c free inp r⟩

/-! ### SETTLE_STEP (R133) -/

section
variable (free : BitVec 16) {r : Regs}

theorem settleStep_of_eq_one (h : r.scSettle = 1) :
    settleStep free r = { r with scSettle := 0, oAdcStart := true, scState := .converting } := by
  simp [settleStep_eq, h, settleDown]

theorem settleStep_of_one_lt (h : 1 < r.scSettle.toNat) : settleStep free r = { r with scSettle := r.scSettle - 1 } := by
  have h0 : r.scSettle ≠ 0 := by bv_omega
  have h1 : r.scSettle - 1 ≠ 0 := by bv_omega
  simp only [settleStep, settleDown, if_neg h0, if_neg h1]

theorem settleStep_of_eq_zero (h : r.scSettle = 0) : settleStep free r =
    if free = 0 then { r with scSettle := free, oAdcStart := true, scState := .converting }
    else { r with scSettle := free } := by
  simp only [settleStep, settleDown, if_pos h]

end

theorem exec_settleStep {s : State} (h : s.regs.halted = false) : exec .settleStep s =
    .next { s with regs := settleStep s.freeSettle s.regs, draws := s.draws + 1 } := exec_running .settleStep h

/-- Settles O25, by the two cases of the count and `phaseB_of_settling`. -/
theorem settleStepCountsDownAndStarts : Obligations.SettleStepCountsDownAndStarts := by
  refine ⟨rfl, fun s h h0 => ?_, fun c free _ _ => phaseB_of_settling c free⟩
  have hexec := exec_settleStep h
  by_cases h1 : s.regs.scSettle = 1
  · rw [settleStep_of_eq_one _ h1] at hexec
    exact ⟨_, hexec, by rw [h1]; rfl, rfl, rfl, fun _ => rfl, absurd h1⟩
  · rw [settleStep_of_one_lt _ (by bv_omega)] at hexec
    refine ⟨_, hexec, ?_, rfl, rfl, fun h => absurd h h1, fun _ => rfl⟩
    show (s.regs.scSettle - 1).toNat = s.regs.scSettle.toNat - 1
    bv_omega

/-- Settles O26, by `settleStep_of_eq_zero`: the free value decides whether the conversion starts. -/
theorem settleStepAtZeroLeavesAFreeValue : Obligations.SettleStepAtZeroLeavesAFreeValue := by
  intro s h h0
  have hexec := exec_settleStep h
  rw [settleStep_of_eq_zero _ h0] at hexec
  split_ifs at hexec with hz
  · exact ⟨_, hexec, rfl, rfl, rfl, rfl, fun _ => by simp only [hz, h0], fun h => absurd hz h⟩
  · exact ⟨_, hexec, rfl, rfl, rfl, rfl, fun h => absurd h hz, fun _ => rfl⟩

/-! ### The length of the settling delay (R133, R279) -/

/-- Without a reset, a block that runs at the end of a run ran before it (R254). -/
theorem running_of_runCycles {s : State} {inps : List Input} (hrst : ∀ inp ∈ inps, inp.rst = false)
    (hrun : (s.runCycles inps).regs.halted = false) : s.regs.halted = false := by
  by_contra hh
  exact absurd (hrun.symm.trans (runCycles_halted (Bool.eq_true_of_not_eq_false hh) hrst)) Bool.false_ne_true

section
variable (c : Config) (free : BitVec 16) {inp : Input} {r : Regs}

/-- A cycle without reset that leaves the block running is its three phases (R66). -/
theorem cycle_of_running (hrst : inp.rst = false) (hrun : (r.cycle c free inp).halted = false) :
    r.cycle c free inp = mainPass c inp (phaseBStrobes c inp (phaseA inp.tick r.clearStart))
      (phaseB c free inp (phaseA inp.tick r.clearStart)) := by
  rcases cycle_cases c free inp r with ⟨h, -⟩ | ⟨-, h, hr⟩ | ⟨-, -, hx, hr⟩ | ⟨-, -, -, hr⟩
  · exact absurd (hrst.symm.trans h) Bool.false_ne_true
  · exact absurd (hrun.symm.trans ((congrArg _ hr).trans h)) Bool.false_ne_true
  · exact absurd (hrun.symm.trans ((congrArg _ hr).trans hx)) Bool.false_ne_true
  · exact hr

/-- A cycle before the end of the settling delay counts it down and does not start the conversion. -/
theorem cycle_settles (hrst : inp.rst = false) (hrun : (r.cycle c free inp).halted = false)
    (hst : r.scState = .settling) (hlt : 1 < r.scSettle.toNat) :
    (r.cycle c free inp).scState = .settling ∧ (r.cycle c free inp).oAdcStart = false ∧
      (r.cycle c free inp).scSettle.toNat = r.scSettle.toNat - 1 ∧ (r.cycle c free inp).scCh = r.scCh := by
  rw [cycle_of_running c free hrst hrun, phaseB_of_settling c free (by simpa using hst),
    settleStep_of_one_lt free (by simpa using hlt)]
  have hdec : (r.scSettle - 1).toNat = r.scSettle.toNat - 1 := by bv_omega
  exact ⟨by simp [hst], by simp, by simpa using hdec, by simp⟩

/-- The cycle that ends the settling delay starts the conversion. -/
theorem cycle_starts (hrst : inp.rst = false) (hrun : (r.cycle c free inp).halted = false)
    (hst : r.scState = .settling) (hone : r.scSettle = 1) :
    (r.cycle c free inp).scState = .converting ∧ (r.cycle c free inp).oAdcStart = true ∧
      (r.cycle c free inp).scCh = r.scCh := by
  rw [cycle_of_running c free hrst hrun, phaseB_of_settling c free (by simpa using hst),
    settleStep_of_eq_one free (by simpa using hone)]
  simp

end

/-- In a run shorter than the settling delay the channel settles on. -/
theorem runCycles_settles {s : State} {inps : List Input} (hst : s.regs.scState = .settling)
    (hrst : ∀ inp ∈ inps, inp.rst = false) (hrun : (s.runCycles inps).regs.halted = false)
    (hlen : inps.length < s.regs.scSettle.toNat) :
    (s.runCycles inps).regs.scState = .settling ∧
      (s.runCycles inps).regs.scSettle.toNat = s.regs.scSettle.toNat - inps.length ∧
      (s.runCycles inps).regs.scCh = s.regs.scCh := by
  induction inps generalizing s with
  | nil => exact ⟨hst, rfl, rfl⟩
  | cons inp inps ih =>
    obtain ⟨h, hrsts⟩ := List.forall_mem_cons.mp hrst
    rw [List.length_cons] at hlen ⊢
    obtain ⟨hst', -, hset', hch'⟩ := cycle_settles s.cfg s.freeSettle h (running_of_runCycles hrsts hrun) hst (by omega)
    rw [← State.cycle_regs] at hst' hset' hch'
    obtain ⟨ihst, ihset, ihch⟩ := ih hst' hrsts hrun (by omega)
    exact ⟨ihst, by rw [State.runCycles_cons, ihset]; omega, ihch.trans hch'⟩

/-- Settles O27: all cycles but the last settle on (`runCycles_settles`), and so does the last (`cycle_settles`) unless it
ends the delay (`cycle_starts`). -/
theorem settlingDelayEndsWithTheStartStrobe : Obligations.SettlingDelayEndsWithTheStartStrobe := by
  intro s inps hst hne hrst hrun
  obtain ⟨init, last, rfl⟩ := (List.eq_nil_or_concat' inps).resolve_left hne
  obtain ⟨hinit, hlast⟩ := List.forall_mem_append.mp hrst
  have hsnoc : s.runCycles (init ++ [last]) = (s.runCycles init).cycle last := List.foldl_append
  have hbefore := runCycles_settles hst hinit (running_of_runCycles hlast (by rwa [hsnoc] at hrun))
  rw [hsnoc] at hrun ⊢
  rw [List.length_append, List.length_singleton]
  rw [List.forall_mem_singleton] at hlast
  refine ⟨fun hlen => ?before, fun hlen => ?ends⟩ <;> obtain ⟨hst', hset', hch'⟩ := hbefore (by omega)
  case before =>
    obtain ⟨hsettling, hstart, hset, hch⟩ := cycle_settles _ _ hlast hrun hst' (by omega)
    exact ⟨hsettling, hstart, by rw [State.cycle_regs, hset]; omega, hch.trans hch'⟩
  case ends =>
    obtain ⟨hconv, hstart, hch⟩ := cycle_starts _ _ hlast hrun hst' (by bv_omega)
    exact ⟨hconv, hstart, hch.trans hch'⟩

/-! ### SAMPLE_DONE (R134, R135) -/

/-- `getLsbD_writeLane` for a mask that holds all its lanes. -/
theorem getLsbD_writeLane_of_le {n : Nat} (hn : n ≤ 8) (v : Mask) (i j : Nat) (b : Bool) :
    (writeLane n v i b).getLsbD j = if j = i ∧ j < n then b else v.getLsbD j := by
  rw [getLsbD_writeLane]
  by_cases hj : j = i
  · subst hj
    by_cases hlt : j < n
    · simp [hlt, hlt.trans_le hn]
    · simp [hlt]
  · simp [hj]

/-- Testing a lane's number before the write changes nothing: `writeLane` tests it too. -/
theorem ite_lt_writeLane (n : Nat) (v : Mask) (i : Nat) (b : Bool) :
    (if i < n then writeLane n v i b else v) = writeLane n v i b := by
  unfold writeLane
  split_ifs <;> rfl

section
variable {c : Config} (raw : BitVec 16) {r : Regs}

theorem getLsbD_storeSample_hSaCur (hn : c.nSlc ≤ 8) (j : Nat) : (storeSample c raw r).hSaCur.getLsbD j =
    if j = r.scCh.toNat ∧ j < c.nSlc then classifies c.clsSlcAlarm raw else r.hSaCur.getLsbD j := by
  simp only [storeSample_eq, ite_lt_writeLane, getLsbD_writeLane_of_le hn]

theorem getLsbD_storeSample_hStCur (hn : c.nSlc ≤ 8) (j : Nat) : (storeSample c raw r).hStCur.getLsbD j =
    if j = r.scCh.toNat ∧ j < c.nSlc then c.troubleClassifyEn && classifies c.clsSlcTrouble raw
    else r.hStCur.getLsbD j := by
  simp only [storeSample_eq, ite_lt_writeLane, getLsbD_writeLane_of_le hn]

theorem getLsbD_storeSample_hNtCur (hn : c.nNac ≤ 8) (hch : r.scCh.toNat < c.nCh) (j : Nat) :
    (storeSample c raw r).hNtCur.getLsbD j =
      if c.nSlc + j = r.scCh.toNat then c.troubleClassifyEn && classifies c.clsNacTrouble raw
      else r.hNtCur.getLsbD j := by
  rw [Config.nCh] at hch
  by_cases hk : r.scCh.toNat < c.nSlc
  · rw [if_neg (by omega)]
    simp only [storeSample_eq, if_pos hk]
  · have hlane : j = r.scCh.toNat - c.nSlc ∧ j < c.nNac ↔ c.nSlc + j = r.scCh.toNat := by omega
    simp only [storeSample_eq, if_neg hk, getLsbD_writeLane_of_le hn, hlane]

end

theorem encode_sampleDone (raw : BitVec 16) (gt : BitVec 1) :
    encode (.sampleDone raw gt) = [0x48#8, raw.setWidth 8, (raw >>> 8).setWidth 8, gt.setWidth 8] := by
  have hlo : raw.extractLsb' 0 8 = raw.setWidth 8 := BitVec.eq_of_toNat_eq (by simp)
  have hhi : raw.extractLsb' 8 8 = (raw >>> 8).setWidth 8 := BitVec.eq_of_toNat_eq (by simp)
  rw [← hlo, ← hhi]
  rfl

/-- Settles O28, by `sampleDone_eq` and the lanes of `storeSample`. -/
theorem sampleDoneStoresTheClassifiedBits : Obligations.SampleDoneStoresTheClassifiedBits := by
  refine ⟨encode_sampleDone, fun s raw gt h hl hch => ?_, fun c free inp r => sampleOrSettle_of_converting c free⟩
  have hexec : exec (.sampleDone raw gt) s = .next { s with regs := sampleDone s.cfg raw gt s.regs } :=
    exec_running (.sampleDone raw gt) h
  rw [sampleDone_eq] at hexec
  have hle := nCh_le hl
  obtain ⟨⟨-, hslc⟩, ⟨-, hnac⟩, -⟩ := hl
  refine ⟨_, hexec, rfl, getLsbD_storeSample_hSaCur raw hslc, getLsbD_storeSample_hStCur raw hslc,
    getLsbD_storeSample_hNtCur raw hnac hch, fun hmore => ?more, fun hlast => ?last⟩
  case more =>
    have hnot : ¬ lastChannel s.cfg s.regs = true := fun h => hmore.ne (lastChannel_iff.mp h)
    have hnext : (s.regs.scCh + 1).toNat = s.regs.scCh.toNat + 1 := by bv_omega
    simp only [if_neg hnot, hnext, and_self]
  case last => simp only [if_pos (lastChannel_iff.mpr hlast)]

/-! ### CYCLE_END (R136) -/

@[simp] theorem rise_eq_one_iff (cur prev : BitVec 1) : rise cur prev = 1#1 ↔ cur = 1#1 ∧ prev = 0#1 := by
  revert cur prev
  decide

@[simp] theorem fall_eq_one_iff (cur prev : BitVec 1) : fall cur prev = 1#1 ↔ cur = 0#1 ∧ prev = 1#1 := by
  revert cur prev
  decide

/-- Settles O29: each strobe is the `rise` or the `fall` of its history. -/
theorem cycleEndReportsRisesAndFalls : Obligations.CycleEndReportsRisesAndFalls := by
  refine ⟨fun _ => rfl, fun s gt h => exec_running (.cycleEnd gt) h, fun r gt j => ?_⟩
  simp [cycleEndStrobes]

/-! ### The references of the edge detection (R138) -/

section
variable (c : Config) (free : BitVec 16) {inp : Input} {r : Regs}

/-- What SCAN_START does not write, phase B leaves as its first half leaves it (R68, R132). -/
theorem phaseB_apply {α : Type} (f : Regs → α) (hf : ∀ r, f (scanStart c r) = f r) :
    f (phaseB c free inp r) = f (sampleOrSettle c free inp r) := by
  rw [phaseB_eq, apply_ite f, hf, ite_self]

/-- Unless the sample of the last channel completes, the first half of phase B leaves the references (R134). -/
theorem sampleOrSettle_previous (h : ¬ (sampleReady inp r = true ∧ lastChannel c r = true)) :
    (sampleOrSettle c free inp r).hSaPrev = r.hSaPrev ∧ (sampleOrSettle c free inp r).hStPrev = r.hStPrev ∧
      (sampleOrSettle c free inp r).hNtPrev = r.hNtPrev ∧ (sampleOrSettle c free inp r).hGtPrev = r.hGtPrev := by
  unfold sampleOrSettle
  split_ifs with hs
  · have hl : lastChannel c r = false := Bool.eq_false_of_not_eq_true fun hl => h ⟨hs, hl⟩
    simp [sampleDone_eq, hl]
  · cases r.scState == .settling <;> simp [settleStep_eq]

end

/-- Settles O31: SCAN_START leaves the history, so both cases are those of the first half of phase B, in which a scan
cycle ends with the sample of the last channel (`phaseBStrobes_eq`). -/
theorem eachScanCycleIsComparedWithTheOneBefore : Obligations.EachScanCycleIsComparedWithTheOneBefore := by
  intro c free inp r k
  have hB {α : Type} (f : Regs → α) (hf : ∀ r, f (scanStart c r) = f r) :
      f (phaseB c free inp r) = f (sampleOrSettle c free inp r) := phaseB_apply c free f hf
  rw [hB Regs.hSaPrev fun _ => rfl, hB Regs.hSaCur fun _ => rfl, hB Regs.hStPrev fun _ => rfl,
    hB Regs.hStCur fun _ => rfl, hB Regs.hNtPrev fun _ => rfl, hB Regs.hNtCur fun _ => rfl,
    hB Regs.hGtPrev fun _ => rfl, phaseBStrobes_eq]
  by_cases hend : sampleReady inp r = true ∧ lastChannel c r = true
  · obtain ⟨hs, hl⟩ := hend
    rw [if_pos ⟨hs, hl⟩, sampleOrSettle, if_pos hs]
    exact ⟨nofun, fun _ => by simp [cycleEndStrobes, sampleDone_eq, hl, storeSample_eq]⟩
  · rw [if_neg hend]
    exact ⟨fun _ => sampleOrSettle_previous c free hend, nofun⟩

/-! ### Conversion results that nobody waits for (R137) -/

section
variable (c : Config) (free : BitVec 16) (inp : Input) {r : Regs}

theorem sampleReady_of_not_converting (h : r.scState ≠ .converting) : sampleReady inp r = false :=
  Bool.eq_false_of_not_eq_true fun hs => h (sampleReady_iff.mp hs).1

theorem phaseBStrobes_of_not_converting (h : r.scState ≠ .converting) : phaseBStrobes c inp r = .zero := by
  simp [phaseBStrobes, sampleReady_of_not_converting inp h]

/-- Unless the scanner is CONVERTING, phase B reads no input. -/
theorem phaseB_congr_of_not_converting (inp' : Input) (h : r.scState ≠ .converting) :
    phaseB c free inp r = phaseB c free inp' r := by
  simp only [phaseB, sampleOrSettle, sampleReady_of_not_converting _ h, Bool.false_eq_true, if_false]

/-- Unless the scanner is CONVERTING, a cycle reads `rst`, `tick` and the buttons alone. -/
theorem cycle_congr_of_not_converting {inp inp' : Input} (h : r.scState ≠ .converting) (hrst : inp.rst = inp'.rst)
    (htick : inp.tick = inp'.tick) (hbtn : Input.btn inp = Input.btn inp') :
    r.cycle c free inp = r.cycle c free inp' := by
  have ha : (phaseA inp'.tick r.clearStart).scState ≠ .converting := by simpa using h
  simp only [Regs.cycle, Regs.runningCycle, hrst, htick, mainPass, hbtn, phaseBStrobes_of_not_converting c _ ha,
    phaseB_congr_of_not_converting c free inp inp' ha]

end

/-- Settles O32, by `cycle_congr_of_not_converting`: the conversion result is none of the inputs that are read. -/
theorem unsolicitedConversionResultsAreIgnored : Obligations.UnsolicitedConversionResultsAreIgnored :=
  fun c free _ _ _ h => cycle_congr_of_not_converting c free h rfl rfl rfl

end Sys2Proof.Machine
end

section
/-! Unit latching_condition_state_machine (42_latching_condition_state_machine.md R171 to R181): each operation's effect,
and where a pass runs it. -/

namespace Sys2Proof.Machine

/-- An operation whose function gives the registers back changes nothing. -/
theorem exec_of_effect_self {i : Instr} {s : State} (h : s.regs.halted = false) (hd : drawsOf i = 0)
    (he : effect i s.freeSettle s.cfg s.regs = s.regs) : exec i s = .next s := by
  rw [exec_running i h, hd, he, Nat.add_zero]

/-! ### The order of a pass (R69) -/

section
variable (c : Config) (inp : Input) (e : Strobes) (r : Regs)

/-- The condition edges neither read nor write BTN_PREV. -/
theorem edgeOps_btnEdge (btn : BitVec 4) : edgeOps c e (btnEdge btn r) = btnEdge btn (edgeOps c e r) := by
  simp only [edgeOps_eq, alarmEdge_eq, btnEdge]

/-- The buttons neither read nor write BTN_PREV: their presses are an argument. -/
theorem buttonOps_btnEdge (btn b : BitVec 4) : buttonOps c b (btnEdge btn r) = btnEdge btn (buttonOps c b r) := by
  simp only [buttonOps_eq, silence_eq, btnEdge]

/-- A pass acts on the buttons after the condition edges, and then recomputes the outputs. -/
theorem mainPass_eq : mainPass c inp e r =
    recompute c (btnEdge (Input.btn inp) (buttonOps c (pressEdges (Input.btn inp) r) (edgeOps c e r))) := by
  rw [mainPass, edgeOps_btnEdge, buttonOps_btnEdge]

theorem edgeOps_nacSilt : (edgeOps c e r).nacSilt = r.nacSilt := by rw [edgeOps_eq]

theorem edgeOps_ui : (edgeOps c e r).ui = r.ui := by rw [edgeOps_eq]

/-- SIL_IND is no derived field: the recomputation leaves it (R178). -/
theorem recompute_silInd : (recompute c r).ui.getLsbD 4 = r.ui.getLsbD 4 := getLsbD_uiFields r 4

end

/-! ### ALARM_EDGE (R171) -/

section
variable {c : Config} {m : Mask} {r : Regs}

/-- A category marked unacknowledged sets its bit of CC and leaves the others. -/
theorem getLsbD_markUnack (cc : BitVec 3) (cat : Category) (k : Nat) (hk : k < 3) :
    (markUnack cc cat).getLsbD k = (k == cat.bit || cc.getLsbD k) := by
  rw [markUnack, getLsbD_writeBit]
  by_cases h : k = cat.bit
  · simp [← h, hk]
  · simp [h]

theorem alarmEdge_zero : alarmEdge c 0 r = r := if_pos rfl

theorem alarmEdge_of_preAlarm (hm : m ≠ 0) (hen : c.prealarmEn = true) (hpa : r.crPa = 0) :
    alarmEdge c m r = { r with crPa := m, cc := markUnack r.cc .preAlarm } := by
  have hor : r.crPa ||| m = m := by rw [hpa]; exact BitVec.zero_or
  rw [alarmEdge, if_neg hm, if_pos ⟨hen, hpa⟩, hor]

theorem alarmEdge_of_generalAlarm (hm : m ≠ 0) (h : ¬ (c.prealarmEn = true ∧ r.crPa = 0)) :
    alarmEdge c m r = { r with crGa := r.crGa ||| m, cc := markUnack r.cc .generalAlarm } := by
  rw [alarmEdge, if_neg hm, if_neg h]

end

/-- Settles O35, by the three cases of the operation. -/
theorem alarmEdgeLatchesPreAlarmThenGeneralAlarm : Obligations.AlarmEdgeLatchesPreAlarmThenGeneralAlarm := by
  refine ⟨fun _ => rfl, fun s m h => ?_, fun c inp e r => ⟨mainPass_crPa c inp e r, mainPass_crGa c inp e r⟩⟩
  have hexec : exec (.alarmEdge m) s = .next { s with regs := alarmEdge s.cfg m s.regs } :=
    exec_running (.alarmEdge m) h
  refine ⟨fun h0 => ?empty, fun hm hen hpa => ?preAlarm, fun hm hga => ?generalAlarm⟩
  case empty => rw [hexec, h0, alarmEdge_zero]
  case preAlarm =>
    rw [alarmEdge_of_preAlarm hm hen hpa] at hexec
    exact ⟨_, hexec, rfl, getLsbD_markUnack _ .preAlarm, rfl⟩
  case generalAlarm =>
    rw [alarmEdge_of_generalAlarm hm hga] at hexec
    exact ⟨_, hexec, fun _ => BitVec.getLsbD_or, getLsbD_markUnack _ .generalAlarm, rfl⟩

/-! ### TROUBLE_EDGE (R172) -/

theorem getLsbD_troubleUnack {w : Nat} {m : BitVec w} (hm : m ≠ 0) (cc : BitVec 3) (k : Nat) (hk : k < 3) :
    (troubleUnack m cc).getLsbD k = (k == 2 || cc.getLsbD k) := by
  rw [troubleUnack, if_neg hm]
  exact getLsbD_markUnack cc .generalTrouble k hk

theorem troubleEdgeSlc_zero (r : Regs) : troubleEdgeSlc 0 r = r := by
  rw [troubleEdgeSlc, latch_zero, troubleUnack_zero]

theorem troubleEdgeNac_zero (r : Regs) : troubleEdgeNac 0 r = r := by
  rw [troubleEdgeNac, latch_zero, troubleUnack_zero]

theorem troubleEdgeGen_zero (r : Regs) : troubleEdgeGen 0 r = r := by
  rw [troubleEdgeGen, latch_zero, troubleUnack_zero]

/-- The general trouble has one cause: any edge that is not empty latches it. -/
theorem latch_eq_one (cr : BitVec 1) {m : BitVec 1} (hm : m ≠ 0) : latch cr m = 1 := by
  revert cr m
  decide

/-- Settles O36: each family's edge is `latch` on its cause register and `troubleUnack` on CC. -/
theorem troubleEdgeLatchesItsFamily : Obligations.TroubleEdgeLatchesItsFamily := by
  refine ⟨fun _ _ _ => ⟨rfl, rfl, rfl⟩, fun s h => ⟨?empty, fun m hm => ?slc, fun m hm => ?nac, fun m hm => ?gen⟩⟩
  case empty =>
    exact ⟨exec_of_effect_self h rfl (troubleEdgeSlc_zero _), exec_of_effect_self h rfl (troubleEdgeNac_zero _),
      exec_of_effect_self h rfl (troubleEdgeGen_zero _)⟩
  case slc => exact ⟨_, exec_running (.troubleEdgeSlc m) h, getLsbD_latch _ m, getLsbD_troubleUnack hm _, rfl⟩
  case nac => exact ⟨_, exec_running (.troubleEdgeNac m) h, getLsbD_latch _ m, getLsbD_troubleUnack hm _, rfl⟩
  case gen => exact ⟨_, exec_running (.troubleEdgeGen m) h, latch_eq_one _ hm, getLsbD_troubleUnack hm _, rfl⟩

/-! ### TROUBLE_RESTORE (R173) -/

/-- Settles O37: each family's restore is `restore` on its cause register. -/
theorem troubleRestoreClearsExactlyItsBits : Obligations.TroubleRestoreClearsExactlyItsBits :=
  ⟨fun _ _ _ => ⟨rfl, rfl, rfl⟩, fun _ h =>
    ⟨fun m => ⟨_, exec_running (.troubleRestoreSlc m) h, getLsbD_restore _ m, rfl⟩,
      fun m => ⟨_, exec_running (.troubleRestoreNac m) h, getLsbD_restore _ m, rfl⟩,
      fun m => ⟨_, exec_running (.troubleRestoreGen m) h, getLsbD_restore _ m, rfl⟩⟩⟩

/-! ### ACK (R174) -/

/-- An acknowledge press leaves a category unacknowledged exactly when one of higher priority was. -/
theorem getLsbD_acknowledge (cc : BitVec 3) :
    (acknowledge cc).getLsbD 0 = false ∧
    (acknowledge cc).getLsbD 1 = (cc.getLsbD 1 && cc.getLsbD 0) ∧
    (acknowledge cc).getLsbD 2 = (cc.getLsbD 2 && (cc.getLsbD 0 || cc.getLsbD 1)) := by
  unfold acknowledge topUnack
  split_ifs with h0 h1 h2
  · simp only [getLsbD_writeBit, Category.bit, h0]
    simp
  · simp only [getLsbD_writeBit, Category.bit, h0, h1]
    simp
  · simp only [getLsbD_writeBit, Category.bit, h0, h1, h2]
    simp
  · simp only [h0, h1, h2]
    simp

/-- Settles O39, by `getLsbD_acknowledge` and the order of the pass. -/
theorem acknowledgeClearsTheHighestPriority : Obligations.AcknowledgeClearsTheHighestPriority := by
  refine ⟨rfl, fun s h => ⟨_, exec_running .ack h, rfl, getLsbD_acknowledge s.regs.cc⟩, fun c inp e r => ?pass⟩
  case pass =>
    rw [mainPass_eq, buttonOps_eq]
    rfl

/-! ### SILENCE (R175) -/

/-- The toggle flips SIL_IND and leaves the other UI fields. -/
theorem getLsbD_toggleSilence (ui : BitVec 7) (k : Nat) :
    (toggleSilence ui).getLsbD k = (ui.getLsbD k ^^ (k == 4)) := by
  rw [toggleSilence, getLsbD_writeBit]
  by_cases h : k = 4
  · simp [h]
  · simp [h, beq_eq_false_iff_ne.mpr h]

section
variable {c : Config} {r : Regs}

theorem silence_of_noAlarm (hpa : r.crPa = 0) (hga : r.crGa = 0) : silence c r = r := by
  simp [silence, hpa, hga]

/-- With an alarm latched, the circuits in scope are the silenceable ones that the alarm may drive. -/
theorem getLsbD_silence_nacSilt (hal : r.crPa ≠ 0 ∨ r.crGa ≠ 0) (j : Nat) :
    (silence c r).nacSilt.getLsbD j = (r.nacSilt.getLsbD j ^^
      (c.nacSilenceable.getLsbD j && (r.crGa != 0 || c.nacPrealarm.getLsbD j))) := by
  simp only [silence_eq]
  by_cases hga : r.crGa = 0
  · rw [if_neg (not_not.mpr hga), if_pos (hal.resolve_right (not_not.mpr hga))]
    simp [hga]
  · have hb : (r.crGa != 0) = true := bne_iff_ne.mpr hga
    rw [if_pos hga, hb]
    simp

theorem silence_ui (hal : r.crPa ≠ 0 ∨ r.crGa ≠ 0) : (silence c r).ui = toggleSilence r.ui := by
  rw [silence_eq]
  exact if_pos hal.symm

theorem silence_frame : silence c r = { r with nacSilt := (silence c r).nacSilt, ui := (silence c r).ui } := by
  rw [silence_eq]

end

/-- Settles O40, by the two cases of the operation and the order of the pass. -/
theorem silenceTogglesTheCircuitsInScope : Obligations.SilenceTogglesTheCircuitsInScope := by
  refine ⟨rfl, fun s h => ⟨fun hpa hga => ?none, fun hal => ?alarm⟩, fun c inp e r => ⟨?nacSilt, ?silInd⟩⟩
  case none => exact exec_of_effect_self h rfl (silence_of_noAlarm hpa hga)
  case alarm =>
    refine ⟨_, exec_running .silence h, getLsbD_silence_nacSilt hal, fun k _ => ?_,
      congrArg s.withRegs silence_frame⟩
    rw [← getLsbD_toggleSilence, ← silence_ui hal]
    rfl
  case nacSilt =>
    rw [mainPass_eq, buttonOps_eq, ← edgeOps_nacSilt c e r]
    rfl
  case silInd =>
    rw [mainPass_eq, recompute_silInd, buttonOps_eq, ← edgeOps_ui c e r]
    exact apply_ite (fun ui : BitVec 7 => ui.getLsbD 4) _ _ _

/-! ### RESET_ARM (R176) -/

/-- RESET_DELAY fits the countdown (R49). -/
theorem resetDelay_toNat {c : Config} (hc : c.Legal) : (BitVec.ofNat 8 c.resetDelay).toNat = c.resetDelay := by
  obtain ⟨-, -, -, -, ⟨-, hle⟩, -⟩ := hc
  exact (BitVec.toNat_ofNat ..).trans (Nat.mod_eq_of_lt (Nat.lt_succ_of_le hle))

/-- A pass with a press edge of the reset button loads the countdown (R69, R176). -/
theorem mainPass_tsRc_of_press (c : Config) {inp : Input} (e : Strobes) {r : Regs} (hb : inp.btnReset = true)
    (hprev : r.btnPrev.getLsbD 0 = false) : (mainPass c inp e r).tsRc = BitVec.ofNat 8 c.resetDelay := by
  have hpress : (pressEdges (Input.btn inp) r).getLsbD 0 = true := by
    rw [pressEdges, getLsbD_rise, (getLsbD_btn inp).1, hb, hprev]
    rfl
  rw [mainPass_tsRc, if_pos hpress]

/-- Settles O41: the cycle either ends in phase A, at the expiry, or its pass loads the countdown. -/
theorem resetPressLoadsTheCountdown : Obligations.ResetPressLoadsTheCountdown := by
  refine ⟨rfl, fun s h hc => ⟨_, exec_running .resetArm h, resetDelay_toNat hc, rfl⟩,
    fun c free inp r hc hh hrst hb hprev => ⟨fun hrun => ?loads, fun hhalt => ?expires⟩⟩
  case loads =>
    rw [cycle_halted_iff c free inp r hrst hh] at hrun
    rw [cycle_runs c free inp r hrst hh hrun, mainPass_tsRc_of_press c _ hb (by simpa using hprev),
      resetDelay_toNat hc]
  case expires =>
    rw [cycle_halted_iff c free inp r hrst hh] at hhalt
    obtain ⟨ht, hx⟩ := Bool.and_eq_true_iff.mp hhalt
    obtain ⟨heven, hrc⟩ : (r.tsC.toNat + 1) % 2 = 0 ∧ r.tsRc = 1 := by simpa [tickExpires] using hx
    rw [cycle_of_tickExpires c free hh hrst ht heven hrc]
    exact ⟨rfl, rfl⟩

/-! ### FUNCTION (R177) -/

/-- Settles O42: FUNCTION is the identity, and `buttonOps_eq` reads the bits 0 to 2 of the presses alone. -/
theorem functionButtonHasNoEffect : Obligations.FunctionButtonHasNoEffect := by
  refine ⟨rfl, fun s => congrArg Host.Outcome.next (ite_self s), fun c b r => ?_⟩
  simp [buttonOps_eq]

/-! ### UI_RECOMPUTE (R178) -/

section
variable {r : Regs}

theorem paUnack_iff : paUnack r = true ↔ r.crPa ≠ 0 ∧ r.cc.getLsbD 0 = true := by
  simp [paUnack]

theorem gaUnack_iff : gaUnack r = true ↔ r.crGa ≠ 0 ∧ r.cc.getLsbD 1 = true := by
  simp [gaUnack]

theorem anyAlarm_iff : anyAlarm r = true ↔ r.crPa ≠ 0 ∨ r.crGa ≠ 0 := by
  simp [anyAlarm]

theorem anyTrouble_iff : anyTrouble r = true ↔ r.crSt ≠ 0 ∨ r.crNt ≠ 0 ∨ r.crGt ≠ 0 := by
  simp [anyTrouble, or_assoc]

theorem gtUnack_iff : gtUnack r = true ↔ (r.crSt ≠ 0 ∨ r.crNt ≠ 0 ∨ r.crGt ≠ 0) ∧ r.cc.getLsbD 2 = true := by
  rw [gtUnack, Bool.and_eq_true, anyTrouble_iff]

end

/-- Settles O43, field by field with `getLsbD_uiFields` and what each flag of the causes says. -/
theorem uiRecomputeDrivesTheDerivedFields : Obligations.UiRecomputeDrivesTheDerivedFields := by
  refine ⟨rfl, fun s h => ⟨_, exec_running .uiRecompute h, rfl, ?_⟩⟩
  simp only [effect, uiRecompute, getLsbD_uiFields, reduceIte, Nat.reduceEqDiff, Bool.and_eq_true, Bool.or_eq_true,
    Bool.not_eq_true', paUnack_iff, gaUnack_iff, anyAlarm_iff, anyTrouble_iff, gtUnack_iff, and_self]

/-! ### NAC_ACTIVATE (R179) -/

/-- Settles O44, lane by lane: the circuit is driven (`nacBase_iff`) and its silence toggle is off. -/
theorem nacActivateFollowsTheAlarms : Obligations.NacActivateFollowsTheAlarms := by
  refine ⟨rfl, fun s h => ⟨_, exec_running .nacActivate h, rfl, fun j hj => ?_⟩⟩
  simp only [effect, nacActivate, BitVec.getLsbD_and, getLsbD_lanes, BitVec.getLsbD_not, Bool.and_eq_true, nacBase_iff]
  simp [hj, and_assoc]

/-! ### The recomputation (R181) -/

section
variable (c : Config) (r : Regs)

theorem uiRecompute_idem : uiRecompute (uiRecompute r) = uiRecompute r :=
  congrArg (fun ui => { r with ui := ui }) (uiFields_uiRecompute r)

/-- UI_RECOMPUTE reads and writes no register that the operations after it write. -/
theorem uiRecompute_recompute : uiRecompute (recompute c r) = recompute c r :=
  congrArg (fun ui => { recompute c r with ui := ui }) (uiFields_uiRecompute r)

theorem nacActivate_outputDrive : nacActivate c (outputDrive r) = outputDrive (nacActivate c r) := rfl

theorem nacActivate_nacCode : nacActivate c (nacCode c (nacActivate c r)) = nacCode c (nacActivate c r) := rfl

/-- NAC_CODE and OUTPUT_DRIVE write neither an alarm cause, nor a silence toggle, nor an activation bit. -/
theorem nacActivate_recompute : nacActivate c (recompute c r) = recompute c r := by
  rw [recompute, nacActivate_outputDrive, nacActivate_nacCode]

/-- OUTPUT_DRIVE writes no register that NAC_CODE reads. -/
theorem nacCode_recompute : nacCode c (recompute c r) = recompute c r := rfl

theorem outputDrive_idem : outputDrive (outputDrive r) = outputDrive r := rfl

end

/-- Settles O45: the recomputed registers are a fixed point of each of the four operations. -/
theorem recomputationIsIdempotent : Obligations.RecomputationIsIdempotent := by
  refine fun c r => ⟨uiRecompute_idem r, rfl, ?_⟩
  calc recompute c (recompute c r)
    _ = outputDrive (nacCode c (nacActivate c (uiRecompute (recompute c r)))) := rfl
    _ = outputDrive (recompute c r) := by rw [uiRecompute_recompute, nacActivate_recompute, nacCode_recompute]
    _ = recompute c r := outputDrive_idem _

end Sys2Proof.Machine
end

section
/-! Unit temporal_output_coder (43_temporal_output_coder.md R221 to R224): the coded bit of a pattern, the gate of a
circuit, the LED and buzzer outputs, and where a pass runs the two operations. -/

namespace Sys2Proof.Machine

/-! ### NAC_CODE (R221 to R223) -/

/-- The pulses of Temporal-3 (R222). -/
theorem t3On_iff (p : BitVec 3) : t3On p = true ↔ p = 0 ∨ p = 2 ∨ p = 4 := by
  revert p
  decide

/-- R222's formula over the bits of the phase. -/
theorem t3On_eq_bits (p : BitVec 3) : t3On p = (!p.getLsbD 0 && !(p.getLsbD 2 && p.getLsbD 1)) := by
  revert p
  decide

theorem pattern_cases (p : BitVec 2) : p = 0 ∨ p = 1 ∨ p = 2 ∨ p = 3 := by
  revert p
  decide

/-- The coded bit, pattern by pattern (R221). -/
theorem coded_iff (r : Regs) (p : BitVec 2) : coded r p = true ↔
    p = 0 ∨ p = 1 ∧ r.tsMt = true ∨ p = 2 ∧ r.tsBuzz = true ∨ p = 3 ∧ (r.tsT3 = 0 ∨ r.tsT3 = 2 ∨ r.tsT3 = 4) := by
  rcases pattern_cases p with rfl | rfl | rfl | rfl <;> simp [coded, t3On_iff]

theorem patternOf_eq {c : Config} {j : Nat} {p : BitVec 2} (h : c.nacPattern[j]? = some p) : patternOf c j = p := by
  rw [patternOf, List.getD_eq_getElem?_getD, h, Option.getD_some]

/-- A legal configuration gives each circuit a pattern and no other lane one (R14, R49). -/
theorem lane_of_pattern {c : Config} (hc : c.Legal) {j : Nat} {p : BitVec 2} (h : c.nacPattern[j]? = some p) :
    j < c.nNac ∧ j < 8 := by
  obtain ⟨-, ⟨-, hle⟩, -, -, -, -, -, hlen⟩ := hc
  have hj : j < c.nacPattern.length := (List.getElem?_eq_some_iff.mp h).1
  omega

/-- A circuit's gate is activated, not disabled, and coded on (R223). -/
theorem gate_iff (c : Config) (r : Regs) (j : Nat) : gate c r j = true ↔
    r.nacAct.getLsbD j = true ∧ c.nacDisable.getLsbD j = false ∧ coded r (patternOf c j) = true := by
  simp [gate, and_assoc]

theorem getLsbD_nacCode (c : Config) (r : Regs) (j : Nat) :
    (nacCode c r).oNac.getLsbD j = (decide (j < c.nNac ∧ j < 8) && gate c r j) :=
  getLsbD_lanes ..

/-- NAC_CODE reads the activation bits and the phases alone. -/
theorem nacCode_oNac_congr (c : Config) {r r' : Regs} (hact : r.nacAct = r'.nacAct) (hmt : r.tsMt = r'.tsMt)
    (hbuzz : r.tsBuzz = r'.tsBuzz) (ht3 : r.tsT3 = r'.tsT3) : (nacCode c r).oNac = (nacCode c r').oNac := by
  have hgate : gate c r = gate c r' := by
    funext j
    simp only [gate, coded, hact, hmt, hbuzz, ht3]
  rw [nacCode, nacCode, hgate]

/-- A pass leaves registers that its NAC_CODE and OUTPUT_DRIVE would leave as they are (R69). -/
theorem nacCode_mainPass (c : Config) (inp : Input) (e : Strobes) (r : Regs) :
    nacCode c (mainPass c inp e r) = mainPass c inp e r := by
  rw [mainPass, nacCode_recompute]

theorem outputDrive_mainPass (c : Config) (inp : Input) (e : Strobes) (r : Regs) :
    outputDrive (mainPass c inp e r) = mainPass c inp e r := by
  rw [mainPass, recompute, outputDrive_idem]

/-- Settles O47: lane by lane with `gate_iff` and `coded_iff`; a pass codes the activation that it leaves, at phases that it
does not change. -/
theorem nacCodeGatesEachCircuit : Obligations.NacCodeGatesEachCircuit := by
  refine ⟨rfl, fun s h hc => ⟨_, exec_running .nacCode h, rfl, fun j hj => ?above, fun j p hp => ?lane⟩, t3On_eq_bits,
    fun c inp e r => ?pass⟩
  case above => exact (fits_iff_bits _ _).mp (fits_lanes _ _) j hj
  case lane =>
    have hbit : (nacCode s.cfg s.regs).oNac.getLsbD j = gate s.cfg s.regs j := by
      rw [getLsbD_nacCode, decide_eq_true (lane_of_pattern hc hp), Bool.true_and]
    rw [← coded_iff, ← patternOf_eq hp, ← gate_iff, ← hbit]
    rfl
  case pass =>
    calc (mainPass c inp e r).oNac
      _ = (nacCode c (mainPass c inp e r)).oNac := by rw [nacCode_mainPass]
      _ = (nacCode c { r with nacAct := (mainPass c inp e r).nacAct }).oNac :=
        nacCode_oNac_congr c rfl (mainPass_tsMt ..) (mainPass_tsBuzz ..) (mainPass_tsT3 ..)

/-! ### OUTPUT_DRIVE (R224) -/

section
variable (r : Regs)

theorem outputDrive_oLedAlarm_iff : (outputDrive r).oLedAlarm = true ↔
    r.ui.getLsbD 1 = true ∨ r.ui.getLsbD 0 = true ∧ r.tsFlash = true := by
  simp [outputDrive]

theorem outputDrive_oLedTrouble_iff : (outputDrive r).oLedTrouble = true ↔
    r.ui.getLsbD 3 = true ∨ r.ui.getLsbD 2 = true ∧ r.tsFlash = true := by
  simp [outputDrive]

theorem outputDrive_oBuzzer_iff : (outputDrive r).oBuzzer = true ↔
    r.ui.getLsbD 6 = true ∧ (r.ui.getLsbD 5 = false ∨ r.tsBuzz = true) := by
  simp [outputDrive]

end

/-- Settles O48: output by output; a pass ends with the operation, and a second run of it changes nothing. -/
theorem outputDriveShowsTheUiState : Obligations.OutputDriveShowsTheUiState :=
  ⟨rfl, fun s h => ⟨_, exec_running .outputDrive h, outputDrive_oLedAlarm_iff s.regs, outputDrive_oLedTrouble_iff s.regs,
    rfl, rfl, outputDrive_oBuzzer_iff s.regs, rfl⟩, outputDrive_mainPass⟩

end Sys2Proof.Machine
end

section
/-! Exceptions (60_exceptions.md R241, R254, R255): the refusal of an illegal configuration, HALTED, and a conversion whose
result does not come. -/

namespace Sys2Proof.Machine

/-! ### HALTED (R254) -/

/-- A tick expires the countdown exactly when TS_C is odd before it and TS_RC is 1 (R67, R102). -/
theorem tickExpires_iff {r : Regs} : tickExpires r = true ↔ r.tsC.toNat % 2 = 1 ∧ r.tsRc = 1 := by
  simp only [tickExpires, Bool.and_eq_true, beq_iff_eq]
  exact and_congr_left fun _ => by omega

/-- Settles O14: `cycle_halted` and `cycle_inReset` for a halted block, `cycle_halted_iff` for a running one. -/
theorem haltedHoldsUntilReset : Obligations.HaltedHoldsUntilReset := by
  intro c free inp r
  have hholds : inp.rst = false → r.halted = true → r.cycle c free inp = r := cycle_halted c free inp r
  have hresets : inp.rst = true → r.cycle c free inp = Regs.reset := cycle_inReset c free inp r
  refine ⟨fun hh hrst => hholds hrst hh, fun hh => ?left, fun hh => ?entered⟩ <;> cases hrst : inp.rst
  case left.false => simp [hholds hrst hh, hh]
  case left.true => simp [hresets hrst, Regs.reset]
  case entered.false => simp [cycle_halted_iff c free inp r hrst hh, tickExpires_iff]
  case entered.true => simp [hresets hrst, Regs.reset]

/-! ### A conversion whose result does not come (R255 (a)) -/

/-- The scanner and the history: the registers that R255 (a) says stand still. -/
def scanAndHistory (r : Regs) : (ScState × BitVec 4 × BitVec 4) × (Mask × Mask × Mask × Mask × Mask × Mask) ×
    (BitVec 1 × BitVec 1) :=
  ((r.scState, r.scCh, r.scPtr), (r.hSaPrev, r.hSaCur, r.hStPrev, r.hStCur, r.hNtPrev, r.hNtCur), (r.hGtPrev, r.hGtCur))

/-- From `r` to `r'` the scanner and the history stand still, and a pending request stays pending (R255 (a)). -/
structure StandsStill (r r' : Regs) : Prop where
  stands : scanAndHistory r' = scanAndHistory r
  pending : r.scanReq = true → r'.scanReq = true

theorem StandsStill.refl (r : Regs) : StandsStill r r := ⟨rfl, id⟩

theorem StandsStill.trans {r₁ r₂ r₃ : Regs} (h₁ : StandsStill r₁ r₂) (h₂ : StandsStill r₂ r₃) : StandsStill r₁ r₃ :=
  ⟨h₂.stands.trans h₁.stands, h₂.pending ∘ h₁.pending⟩

theorem StandsStill.scState {r r' : Regs} (h : StandsStill r r') : r'.scState = r.scState :=
  congrArg (·.1.1) h.stands

section
variable (c : Config) (free : BitVec 16) {inp : Input} {r : Regs}

/-- While CONVERTING without a result, phase B does nothing: the scanner is not IDLE, so a request waits (R68). -/
theorem phaseB_of_waiting (hst : r.scState = .converting) (hv : inp.adcValid = false) : phaseB c free inp r = r := by
  rw [phaseB_eq, if_neg (by simp [hst, hv]), sampleOrSettle_of_converting c free hst, hv, if_neg Bool.false_ne_true]

/-- Phase A writes neither scanner nor history, and DIV8 only makes requests (R105). -/
theorem phaseA_standsStill (inp : Input) (hh : r.halted = false) : StandsStill r (phaseA inp.tick r) where
  stands := by simp [scanAndHistory]
  pending hreq := by
    cases inp.tick
    · exact hreq
    · simp [phaseA_tick_eq r hh, hreq]

theorem mainPass_standsStill (inp : Input) (e : Strobes) (r : Regs) : StandsStill r (mainPass c inp e r) :=
  ⟨by simp [scanAndHistory], by simp⟩

/-- A cycle without reset or conversion result leaves a waiting scanner waiting, whether the block runs, halts or is
halted. -/
theorem cycle_standsStill (hst : r.scState = .converting) (hrst : inp.rst = false) (hv : inp.adcValid = false) :
    StandsStill r (r.cycle c free inp) := by
  have hclear : StandsStill r r.clearStart := ⟨rfl, id⟩
  rcases cycle_cases c free inp r with ⟨h, -⟩ | ⟨-, -, hr⟩ | ⟨-, hh, -, hr⟩ | ⟨-, hh, -, hr⟩
  · exact absurd (hrst.symm.trans h) Bool.false_ne_true
  · rw [hr]
    exact .refl r
  · rw [hr]
    exact hclear.trans (phaseA_standsStill inp hh)
  · have hA : StandsStill r (phaseA inp.tick r.clearStart) := hclear.trans (phaseA_standsStill inp hh)
    rw [hr, phaseB_of_waiting c free (hA.scState.trans hst) hv]
    exact hA.trans (mainPass_standsStill c inp _ _)

end

theorem runCycles_standsStill {s : State} {inps : List Input} (hst : s.regs.scState = .converting)
    (hin : ∀ inp ∈ inps, inp.rst = false ∧ inp.adcValid = false) : StandsStill s.regs (s.runCycles inps).regs := by
  induction inps generalizing s with
  | nil => exact .refl s.regs
  | cons inp inps ih =>
    obtain ⟨⟨hrst, hv⟩, hins⟩ := List.forall_mem_cons.mp hin
    have hcycle : StandsStill s.regs (s.cycle inp).regs := cycle_standsStill s.cfg s.freeSettle hst hrst hv
    exact hcycle.trans (ih (hcycle.scState.trans hst) hins)

/-- Settles O33, by `runCycles_standsStill`. -/
theorem scannerWaitsForTheConversion : Obligations.ScannerWaitsForTheConversion := by
  intro s inps hst hin
  obtain ⟨hstands, hpending⟩ := runCycles_standsStill hst hin
  simp only [scanAndHistory, Prod.mk.injEq] at hstands
  simpa only [hstands, hst, true_and] using hpending

/-! ### An illegal configuration (R241 code 1) -/

/-- An operation is not fetched under an illegal configuration, whatever the bytes are (log entries 13, 14). -/
theorem step_operations_illegal {s : State} {bytes : List Byte} (hd : s.driver = .operations bytes)
    (hl : ¬ s.cfg.Legal) : step s = .refused .refuseConfig := by
  simp only [step, hd, fetchOperation, if_neg hl]

/-- Settles O12: both levels of a run test the configuration before anything else. -/
theorem illegalConfigurationIsRefused : Obligations.IllegalConfigurationIsRefused := by
  rintro s bytes x rest (⟨hd, hl⟩ | ⟨hd, hl⟩)
  · exact step_operations_illegal hd hl
  · exact (step_cycles hd).trans (runStimulus_illegal hl)

end Sys2Proof.Machine
end

section
/-! Reset and hazards (70_reset_and_hazards.md R271, R277): the first cycle after reset, and a changed configuration. -/

namespace Sys2Proof.Machine

/-! ### A changed configuration (R241 code 2, R277) -/

/-- Settles O13: with `rst` = 1 the clock cycle runs under the new configuration, without it the change is refused. -/
theorem configurationChangeWithoutResetIsRefused : Obligations.ConfigurationChangeWithoutResetIsRefused := by
  intro s c w rest inp hl hc hd hdec
  cases hrst : inp.rst
  case false => exact iff_of_true ((step_cycles hd).trans (runStimulus_changed hl hdec hrst hc)) rfl
  case true =>
    obtain ⟨t, ht⟩ : ∃ t, step s = .next t := ⟨_, (step_cycles hd).trans (runStimulus_cycle hl hdec (.inl hrst))⟩
    rw [ht]
    exact iff_of_false nofun nofun

/-! ### The first cycle after reset (R271) -/

section
variable (c : Config) {r : Regs}

/-- An IDLE scanner without a request has nothing to do in phase B (R68). -/
theorem phaseB_of_idle (free : BitVec 16) (inp : Input) (hst : r.scState = .idle) (hreq : r.scanReq = false) :
    phaseB c free inp r = r := by
  have hB : sampleOrSettle c free inp r = r := by
    rw [sampleOrSettle, sampleReady, hst]
    rfl
  rw [phaseB_eq, if_neg (by simp [hreq]), hB]

theorem edgeOps_zero : edgeOps c .zero r = r := rfl

theorem buttonOps_zero : buttonOps c 0 r = r := rfl

/-- A button that is not down is not newly pressed (R139). -/
theorem pressEdges_zero : pressEdges 0 r = 0 := BitVec.zero_and

/-- Without a button down and without an edge, a pass is the recomputation (R69). -/
theorem mainPass_of_no_input {inp : Input} (hbtn : Input.btn inp = 0) :
    mainPass c inp .zero r = recompute c (btnEdge 0 r) := by
  rw [mainPass, hbtn, edgeOps_zero, pressEdges_zero, buttonOps_zero]

theorem lanes_eq_zero {f : Nat → Bool} (hf : ∀ j, f j = false) (n : Nat) : lanes f n = 0 := by
  apply BitVec.eq_of_getLsbD_eq
  simp [hf]

/-- Without an alarm no circuit is activated (R179). -/
theorem nacActivate_of_no_alarm (hpa : r.crPa = 0) (hga : r.crGa = 0) : nacActivate c r = { r with nacAct := 0 } := by
  have hbase : ∀ j, nacBase c r j = false := by simp [nacBase, hpa, hga]
  simp [nacActivate, lanes_eq_zero hbase]

/-- Without an activated circuit every gate is off (R223). -/
theorem nacCode_of_no_activation (hact : r.nacAct = 0) : nacCode c r = { r with oNac := 0 } := by
  have hgate : ∀ j, gate c r j = false := by simp [gate, hact]
  rw [nacCode, lanes_eq_zero hgate]

/-- No cause is latched after reset, so the power LED is the only output that is on (R271). -/
theorem recompute_reset : recompute c Regs.reset = { Regs.reset with oLedPower := true } := by
  have hui : uiRecompute Regs.reset = Regs.reset := by decide
  have hact : nacActivate c Regs.reset = Regs.reset := nacActivate_of_no_alarm c rfl rfl
  have hcode : nacCode c Regs.reset = Regs.reset := nacCode_of_no_activation c rfl
  rw [recompute, hui, hact, hcode]
  rfl

end

theorem btn_eq_zero {inp : Input} (hreset : inp.btnReset = false) (hack : inp.btnAck = false)
    (hsilence : inp.btnSilence = false) (hfunction : inp.btnFunction = false) : Input.btn inp = 0 := by
  rw [Input.btn, hreset, hack, hsilence, hfunction]
  rfl

/-- Settles O16: phases A and B find nothing to do, and phase C recomputes the outputs of the reset registers. -/
theorem firstCycleAfterResetLightsThePowerLed : Obligations.FirstCycleAfterResetLightsThePowerLed := by
  intro c free inp _ hrst htick hreset hack hsilence hfunction
  have hx : (inp.tick && tickExpires Regs.reset) = false := by rw [htick, Bool.false_and]
  have hA : phaseA inp.tick Regs.reset.clearStart = Regs.reset := by rw [htick]; rfl
  have hE : phaseBStrobes c inp Regs.reset = .zero := phaseBStrobes_of_not_converting c inp nofun
  calc Regs.reset.cycle c free inp
    _ = mainPass c inp (phaseBStrobes c inp Regs.reset) (phaseB c free inp Regs.reset) := by
      rw [cycle_runs c free inp Regs.reset hrst rfl hx, hA]
    _ = mainPass c inp .zero Regs.reset := by rw [hE, phaseB_of_idle c free inp rfl rfl]
    _ = recompute c Regs.reset := mainPass_of_no_input c (btn_eq_zero hreset hack hsilence hfunction)
    _ = { Regs.reset with oLedPower := true } := recompute_reset c

end Sys2Proof.Machine
end
